-- ==== Sys2Proof/Word.lean ====
section
/-! DEFINITION. The byte of the gate line and of the configuration image. Nothing else of the station is a machine word: times, minutes, figures and badge numbers are natural numbers or integers with the ranges the spec gives them. -/

namespace Sys2Proof

/-- One byte of a frame, of the configuration image or of a panel transfer. -/
abbrev Byte := BitVec 8

end Sys2Proof
end

