-- ==== Sys2Proof/Syntax.lean ====
section
/-! DEFINITION. The commands the station takes: one constructor for each row of spec/opcode_table.json, with what the outside
gives at that step as operands. A frame is not an operand: it reaches the station character by character (CHARACTER_RECEIVED)
and stands in the receive buffer until the command of its row takes it from there (R144, R152). -/

namespace Sys2Proof

/-- The two badge readers (R43). -/
inductive Reader where
  | entry
  | exit
  deriving DecidableEq, Repr

/-- The two rails of a reader (R44). -/
inductive Rail where
  | zero
  | one
  deriving DecidableEq, Repr

/-- What the station's pins show at a millisecond tick: the raw levels of the three gate inputs (true is a high level, R65) and
the bell current sense (R132). -/
structure Pins where
  door        : Bool
  button      : Bool
  freePassage : Bool
  sense       : BitVec 10
  deriving DecidableEq, Repr

/-- Samples 7, 8 and 9 of one bit time of the gate line (R140), true for the level 1. -/
structure BitCell where
  s7 : Bool
  s8 : Bool
  s9 : Bool
  deriving DecidableEq, Repr

/-- The ten bit times after a confirmed start bit (R139, R140): eight data bits, least significant first, the mark bit and the
stop bit. -/
structure CharCells where
  d0   : BitCell
  d1   : BitCell
  d2   : BitCell
  d3   : BitCell
  d4   : BitCell
  d5   : BitCell
  d6   : BitCell
  d7   : BitCell
  mark : BitCell
  stop : BitCell
  deriving DecidableEq, Repr

/-- The commands, in the order of spec/opcode_table.json. -/
inductive Instr where
  /-- COLD_START (R171) -/
  | coldStart
  /-- RESET_PIN_ASSERTED (R172) -/
  | resetPinAsserted
  /-- WARM_START (R172) -/
  | warmStart
  /-- CONFIG_RETRY (R169) -/
  | configRetry
  /-- CONFIG_READ_COMPLETE (R170): the 512 bytes of the completed try -/
  | configReadComplete (image : List Byte)
  /-- BACKUP_ENTRY (R173) -/
  | backupEntry
  /-- BACKUP_SUPPLY_LOST (R173) -/
  | backupSupplyLost
  /-- POWER_RETURN (R174) -/
  | powerReturn
  /-- ADVANCE (R7) -/
  | advance
  /-- ELAPSED_SECOND_TICK (R18) -/
  | elapsedSecondTick
  /-- BEACON_DUE (R12) -/
  | beaconDue
  /-- DUPLICATE_HOLD_EXPIRY (R20) -/
  | duplicateHoldExpiry
  /-- HEAR_BEACON (R13) -/
  | hearBeacon
  /-- HEAR_PUNCH (R31) -/
  | hearPunch
  /-- RAIL_STUCK (R44): the reader and the rail asserted for 25 ms -/
  | railStuck (reader : Reader) (rail : Rail)
  /-- READ_END (R45) -/
  | readEnd (reader : Reader)
  /-- SUPPRESSION_EXPIRY (R47) -/
  | suppressionExpiry (reader : Reader)
  /-- WAIT_TIMEOUT (R50) -/
  | waitTimeout
  /-- DECIDE_HEAD (R53) -/
  | decideHead
  /-- INDICATION_EXPIRY (R61) -/
  | indicationExpiry (reader : Reader)
  /-- TONE_END (R61) -/
  | toneEnd (reader : Reader)
  /-- INPUTS_ESTABLISHED (R66) -/
  | inputsEstablished
  /-- DOOR_OPENS (R73) -/
  | doorOpens
  /-- DOOR_CLOSES (R75) -/
  | doorCloses
  /-- EXIT_BUTTON_PRESS (R70) -/
  | exitButtonPress
  /-- FREE_PASSAGE_ASSERTED (R79) -/
  | freePassageAsserted
  /-- FREE_PASSAGE_RELEASED (R80) -/
  | freePassageReleased
  /-- RELEASE_TIMER_EXPIRY (R74) -/
  | releaseTimerExpiry
  /-- HOLD_TIMER_EXPIRY (R76) -/
  | holdTimerExpiry
  /-- HEAR_RING (R128) -/
  | hearRing
  /-- STROKE_END (R133) -/
  | strokeEnd
  /-- STROKE_SHORT_CUT (R132) -/
  | strokeShortCut
  /-- GAP_END (R130) -/
  | gapEnd
  /-- PAUSE_END (R129) -/
  | pauseEnd
  /-- CHARACTER_RECEIVED (R141): the samples of the ten bits after the start bit -/
  | characterReceived (cells : CharCells)
  /-- SEND_ATTEMPT_START (R147) -/
  | sendAttemptStart
  /-- ENROL (R26) -/
  | enrol
  /-- BAR (R29) -/
  | bar
  /-- UNBAR (R29) -/
  | unbar
  /-- WITHDRAW (R28) -/
  | withdraw
  /-- FLAG (R30) -/
  | flag
  /-- SET_MESSAGE (R167) -/
  | setMessage
  /-- SET_CLOCK (R15) -/
  | setClock
  /-- RING_NOW (R131) -/
  | ringNow
  /-- WEEK_COLLECTED (R116) -/
  | weekCollected
  /-- REMOTE_RELEASE (R71) -/
  | remoteRelease
  /-- BELL_TEST (R135) -/
  | bellTest
  /-- READ_RECORD (R119) -/
  | readRecord
  /-- READ_TOTALS (R117) -/
  | readTotals
  /-- READ_JOURNAL (R163) -/
  | readJournal
  /-- READ_STATUS (R157) -/
  | readStatus
  /-- RESTART (R159) -/
  | restart
  /-- REQUEST_INVALID (R152) -/
  | requestInvalid
  /-- PANEL_OVERLAY_EXPIRY (R166) -/
  | panelOverlayExpiry
  /-- PANEL_TRANSFER_COMPLETE (R165) -/
  | panelTransferComplete
  /-- QUALIFIED_PULSE (R44): taken at the end of a pulse of 20 µs or more; overlaps says whether a qualified pulse of the other
  rail overlapped it for any part of its length -/
  | qualifiedPulse (reader : Reader) (rail : Rail) (overlaps : Bool)
  /-- MILLISECOND_TICK (R3): with the levels of the pins at the tick -/
  | millisecondTick (pins : Pins)
  /-- START_BIT_CONFIRMED (R140): with samples 7, 8 and 9 after a change of the line from 1 to 0 -/
  | startBitConfirmed (cell : BitCell)
  /-- CHARACTER_TIME_END (R148) -/
  | characterTimeEnd
  /-- MAIN_SUPPLY_RISE (R174) -/
  | mainSupplyRise
  /-- MAIN_SUPPLY_DIP (R174) -/
  | mainSupplyDip
  /-- TRY_NOT_ACKNOWLEDGED (R169) -/
  | tryNotAcknowledged
  deriving DecidableEq, Repr

end Sys2Proof
end

