-- ==== Sys2Proof/Config.lean ====
section
/-! DEFINITION. What the part fixes once for every G440 (sizes, moduli, durations), and the free values: constants without a body for the two figures the spec uses and does not state. -/

namespace Sys2Proof.Config

/-- R5: minutes in a week. -/
def minutesPerWeek : Nat := 10080
/-- R5: minutes in a day. -/
def minutesPerDay : Nat := 1440
/-- R3: week numbers wrap at this value. -/
def weekCount : Nat := 65536
/-- R5: the modulus of absolute minutes, 65,536 times 10,080. -/
def absModulus : Nat := 660602880
/-- R5: a difference of absolute minutes of this size or more is made negative. -/
def absHalf : Nat := 330301440
/-- R2: the elapsed base wraps at this value. -/
def elapsedModulus : Nat := 4294967296
/-- "Counters": every counter holds 0..65,535 and saturates. -/
def counterMax : Nat := 65535

/-- R1: crystal cycles of an untrimmed second. -/
def crystalPerSecond : Nat := 7372800
/-- R1: crystal cycles of each of the ticks 1 to 999 of a second. -/
def crystalPerTick : Nat := 7372
/-- R1: crystal cycles of the thousandth tick at trim 0. -/
def crystalLastTick : Nat := 8172

/-- R22: most records of the roster. -/
def rosterMax : Nat := 1024
/-- R16: most entries of the peer table. -/
def peerMax : Nat := 32
/-- R18: elapsed seconds after which an entry is SILENT. -/
def peerSilentAge : Nat := 48
/-- R16: ages are held at this value. -/
def peerAgeMax : Nat := 65535
/-- R10: elapsed seconds of the beacon period. -/
def beaconPeriod : Nat := 16
/-- R20: elapsed seconds the DUPLICATE NUMBER flag stays set. -/
def duplicateHold : Nat := 60
/-- R161: most entries of the journal. -/
def journalMax : Nat := 512
/-- R145: places of the transmit queue. -/
def txMax : Nat := 16
/-- R148: attempts of one frame. -/
def attemptMax : Nat := 16
/-- R144: frames of the receive buffer. -/
def rxMax : Nat := 4
/-- R147: character times of idle line before an attempt, the backoff apart. -/
def idleBase : Nat := 4
/-- R141: longest body of a frame. -/
def bodyMax : Nat := 56
/-- R129: rings waiting to sound. -/
def ringMax : Nat := 4
/-- R47: entries of a suppression list. -/
def suppressionMax : Nat := 8
/-- R44: bits kept of a read. -/
def readBits : Nat := 40
/-- R44: the bit count of a read is held at this value. -/
def readCountMax : Nat := 255
/-- R49: capacity of the waiting queue while the rush window is open. -/
def rushCapacity : Nat := 4
/-- R49: capacity of the waiting queue while the rush window is closed. -/
def plainCapacity : Nat := 1
/-- R84: qualification count of an UNCONFIGURED station. -/
def unconfiguredQ : Nat := 16
/-- R94: longest span of a result, in minutes; R25 and R95 hold sums at it. -/
def spanMax : Nat := 2880
/-- R35: keys of a credited-key list. -/
def creditedMax : Nat := 3
/-- R124, R128: seconds within which an entry fires late or is followed. -/
def lateSeconds : Int := 120
/-- R169: tries of the two-wire read. -/
def readTries : Nat := 4
/-- R169: bytes of the configuration image. -/
def imageBytes : Nat := 512

/-- R45: milliseconds both rails are free at the end of a read; R44: at which a rail is stuck. -/
def railQuiet : Nat := 25
/-- R47: milliseconds an entry stays in a suppression list. -/
def suppressionTime : Nat := 4000
/-- R50: milliseconds a read waits. -/
def waitTime : Nat := 10000
/-- R61: milliseconds of an indication. -/
def indicationTime : Nat := 3000
/-- R61: milliseconds of the admitted tone. -/
def longTone : Nat := 300
/-- R61: milliseconds of a refused tone and of the gap between two. -/
def shortTone : Nat := 150
/-- R129, R130: milliseconds of a gap, of a pause and of a short stroke. -/
def oneSecond : Nat := 1000
/-- R130: milliseconds of a LONG stroke. -/
def longStroke : Nat := 4000
/-- R132: milliseconds of a stroke that are not sampled. -/
def inrush : Nat := 50
/-- R132: consecutive samples above the short limit that cut a stroke. -/
def shortRun : Nat := 3
/-- R166: milliseconds of a result overlay. -/
def resultOverlay : Nat := 3000
/-- R167: milliseconds of a message overlay. -/
def messageOverlay : Nat := 6000
/-- R169: milliseconds between two tries of the read. -/
def retryWait : Nat := 10
/-- R174: milliseconds the main supply must stand for a POWER RETURN. -/
def supplyQualify : Nat := 250

/-- FREE VALUE (log entry 4). R25 adds a signed span to the gross minutes and bounds the sum above, at 2,880; it states no
value for a sum below 0. The argument is that sum. -/
opaque grossBelowZero : Int → Nat

/-- FREE VALUE (log entry 5). R133 divides the sum of a stroke's samples by their number and states no mean for a stroke
without samples. The argument is the elapsed base. -/
opaque meanOfNoSamples : Nat → Nat

end Sys2Proof.Config
end

