-- ==== Sys2Proof/Machine/State.lean ====
section
/-! DEFINITION. Everything the station holds, block by block, as plain data, and the state right after a cold start. Output lines
(release, alarm, bell, lamps, tones) are not stored: they are functions of the state (Machine/Outputs.lean). -/

namespace Sys2Proof.Machine

/-! ### Stamps and keys -/

/-- A stamp (R6): week 0..65,535, minute of week 0..10,079, second 0..59. -/
structure Stamp where
  week   : Nat
  minute : Nat
  second : Nat
  deriving DecidableEq, Repr

/-- The order key of a punch and the key of an interval: a stamp and a station number ("Punch order key"). -/
structure PunchKey where
  stamp   : Stamp
  station : Nat
  deriving DecidableEq, Repr

/-- Direction of a punch: IN at the entry reader, OUT at the exit reader. -/
inductive Direction where
  | inward
  | outward
  deriving DecidableEq, Repr

/-! ### Timebase, site clock, announcements -/

/-- An elapsed timer (R2): the elapsed base at its start, and its duration in milliseconds. -/
structure Timer where
  start    : Nat
  duration : Nat
  deriving DecidableEq, Repr

/-- The timebase (R1, R2). -/
structure Timebase where
  /-- elapsed base, 0..4,294,967,295 (R2) -/
  elapsed        : Nat
  /-- millisecond ticks of the trimmed second in progress, 0..999 (R1) -/
  msInSecond     : Nat
  /-- trim in use, −2,047..+2,047 (R1) -/
  trim           : Int
  /-- the trim the second in progress began with (R1) -/
  secondTrim     : Int
  /-- one-second ticks (R2) not yet taken by ELAPSED_SECOND_TICK -/
  secondTicksDue : Nat
  deriving DecidableEq, Repr

/-- The site clock (R3). -/
structure Clock where
  week   : Nat
  minute : Nat
  second : Nat
  /-- sub-second count, 0..999 ms -/
  subMs  : Nat
  /-- CLOCK SET -/
  isSet  : Bool
  deriving DecidableEq, Repr

/-- An ADVANCE announcement (R7): the new clock value (its second is 0), day changed and week changed. -/
structure Advance where
  week        : Nat
  minute      : Nat
  dayChanged  : Bool
  weekChanged : Bool
  deriving DecidableEq, Repr

/-- Cause of a step (R8). -/
inductive StepCause where
  | adoption
  | setClock
  deriving DecidableEq, Repr

/-- Direction of a step (R8). -/
inductive StepDirection where
  | forward
  | backward
  | initial
  deriving DecidableEq, Repr

/-! ### Peer table -/

/-- Role of a peer (R16). -/
inductive Role where
  | gate
  | office
  deriving DecidableEq, Repr

/-- State of a peer table entry (R16, R18). -/
inductive PeerState where
  | live
  | silent
  deriving DecidableEq, Repr

/-- The status flags a beacon carries (R11). -/
structure BeaconFlags where
  clockSet  : Bool
  isolated  : Bool
  bellFault : Bool
  duplicate : Bool
  deriving DecidableEq, Repr

/-- An entry of the peer table (R16). -/
structure Peer where
  station : Nat
  role    : Role
  zone    : Nat
  age     : Nat
  state   : PeerState
  /-- last offset, −127..+127 seconds -/
  offset  : Int
  lagging : Bool
  flags   : BeaconFlags
  deriving DecidableEq, Repr

/-- The beacon timer (R10), in whole elapsed seconds: a beacon is due when the count reaches the target. -/
structure BeaconTimer where
  count  : Nat
  target : Nat
  deriving DecidableEq, Repr

/-- The peer table with the beacon timer and the duplicate number hold. -/
structure PeerTable where
  entries   : List Peer
  /-- absent while stopped (R10) -/
  beacon    : Option BeaconTimer
  /-- elapsed seconds since the last frame with the own number; DUPLICATE NUMBER is set exactly while present (R20) -/
  duplicate : Option Nat
  deriving DecidableEq, Repr

/-! ### Roster -/

/-- Status of a record (R23). -/
inductive RecordStatus where
  | active
  | barred
  | leaving
  deriving DecidableEq, Repr

/-- Presence of a record (R23). -/
inductive Presence where
  | isIn
  | isOut
  deriving DecidableEq, Repr

/-- Kind of an occurrence (R23, R90). -/
inductive OccKind where
  | scheduled
  | offDay
  | noShift
  deriving DecidableEq, Repr

/-- Break state of an accumulator (R23). -/
inductive BreakState where
  | none
  | deducted
  | taken
  deriving DecidableEq, Repr

/-- Last punch of a record (R23). -/
structure LastPunch where
  key       : PunchKey
  direction : Direction
  deriving DecidableEq, Repr

/-- An open interval (R23). Its key is the interval key. -/
structure OpenInterval where
  key   : PunchKey
  /-- captured shift code, 0..12 -/
  code  : Nat
  kind  : OccKind
  /-- occurrence start, absent for NO SHIFT -/
  start : Option Nat
  deriving DecidableEq, Repr

/-- The shift accumulator (R23). -/
structure Accumulator where
  start   : Nat
  code    : Nat
  gross   : Nat
  regular : Nat
  ot1     : Nat
  ot2     : Nat
  breakState : BreakState
  lastOut : Option Stamp
  deriving DecidableEq, Repr

/-- A week slot (R107). -/
structure WeekSlot where
  tag           : Nat
  regular       : Nat
  ot1           : Nat
  ot2           : Nat
  night         : Nat
  credits       : Nat
  pay           : Nat
  intervals     : Nat
  saturated     : Bool
  unpairedSeen  : Bool
  abandonedSeen : Bool
  collected     : Bool
  deriving DecidableEq, Repr

/-- A worker record (R23). -/
structure Record where
  badge     : Nat
  status    : RecordStatus
  shiftCode : Nat
  rateClass : Nat
  presence  : Presence
  lastPunch : Option LastPunch
  interval  : Option OpenInterval
  acc       : Option Accumulator
  /-- credited-key list, newest first (R35) -/
  credited  : List PunchKey
  message   : Option Nat
  current   : WeekSlot
  previous  : WeekSlot
  deriving DecidableEq, Repr

/-- The flags of a result (R102). -/
structure ResultFlags where
  offDay        : Bool
  noShift       : Bool
  nullSpan      : Bool
  negative      : Bool
  overlong      : Bool
  breakDeducted : Bool
  stale         : Bool
  deriving DecidableEq, Repr

/-- The result of a closed interval (R91). -/
structure PayResult where
  key     : PunchKey
  start   : Option Nat
  effIn   : Nat
  effOut  : Nat
  regular : Nat
  ot1     : Nat
  ot2     : Nat
  night   : Nat
  breakMinutes : Nat
  credits : Nat
  pay     : Nat
  flags   : ResultFlags
  deriving DecidableEq, Repr

/-! ### Notices, requests and frames -/

/-- The flags of a punch (R59). -/
structure PunchFlags where
  softPassback : Bool
  unpaired     : Bool
  crossed      : Bool
  delivered    : Bool
  deriving DecidableEq, Repr

/-- The OCCURRENCE part of an IN notice (R59). -/
structure Occurrence where
  code  : Nat
  kind  : OccKind
  start : Option Nat
  deriving DecidableEq, Repr

/-- The body of a PUNCH notice (R59, R151). -/
structure PunchNotice where
  sequence   : Nat
  badge      : Nat
  direction  : Direction
  flags      : PunchFlags
  stamp      : Stamp
  occurrence : Option Occurrence
  superseded : Option PunchKey
  result     : Option PayResult
  deriving DecidableEq, Repr

/-- The body of a BEACON frame (R11, R151); the role byte as it stands. -/
structure BeaconBody where
  roleCode : Nat
  zone     : Nat
  flags    : BeaconFlags
  stamp    : Stamp
  records  : Nat
  deriving DecidableEq, Repr

/-- Pattern of a ring (R120). -/
inductive Pattern where
  | long
  | double
  | triple
  | continuous (seconds : Nat)
  deriving DecidableEq, Repr

/-- The body of a RING notice (R127, R151). -/
structure RingNotice where
  zone    : Nat
  index   : Nat
  week    : Nat
  day     : Nat
  minute  : Nat
  pattern : Pattern
  deriving DecidableEq, Repr

/-- Status of a reply (R151, R153). -/
inductive ReplyStatus where
  | done
  | noRecord
  | full
  | badValue
  | wrongState
  deriving DecidableEq, Repr

/-- A reply (R153): destination, kind and tag echoed, status and data. -/
structure Reply where
  destination : Nat
  kind        : Byte
  tag         : Byte
  status      : ReplyStatus
  data        : List Byte
  deriving DecidableEq, Repr

/-- What a frame of the transmit queue carries. A BEACON's body is filled at each attempt (R11, R147). -/
inductive TxPayload where
  | punch (notice : PunchNotice)
  | beacon
  | ring (notice : RingNotice)
  | reply (reply : Reply)
  deriving DecidableEq, Repr

/-- A frame of the transmit queue with its attempt count, 0..16 (R145). The journal sequence of a PUNCH notice is the notice's own
sequence. -/
structure TxFrame where
  payload  : TxPayload
  attempts : Nat
  deriving DecidableEq, Repr

/-- The five frame kinds (R151). -/
inductive FrameKind where
  | punch
  | ring
  | request
  | reply
  | beacon
  deriving DecidableEq, Repr

/-- A frame of the receive buffer (R144). -/
structure RxFrame where
  kind        : FrameKind
  source      : Nat
  destination : Nat
  body        : List Byte
  deriving DecidableEq, Repr

/-- An own send attempt (R147, R148): the bytes of the frame, and how many characters were read back equal. -/
structure Attempt where
  bytes : List Byte
  done  : Nat
  deriving DecidableEq, Repr

/-- The Line Controller. -/
structure Line where
  /-- receive buffer, oldest first (R144) -/
  rx        : List RxFrame
  /-- frame assembler (R141): HUNT when absent, else the bytes of the frame in assembly -/
  assembly  : Option (List Byte)
  /-- transmit queue, oldest first (R145) -/
  tx        : List TxFrame
  /-- reservations outstanding (R145) -/
  reserved  : Nat
  attempt   : Option Attempt
  /-- idle count, in character times (R147) -/
  idle      : Nat
  /-- backoff k, in character times (R147) -/
  backoff   : Nat
  /-- shift generator (R148) -/
  generator : BitVec 16
  /-- a start bit was confirmed and its character is not complete (R140) -/
  receiving : Bool
  /-- a start bit was confirmed in the character time now running (R148) -/
  startSeen : Bool
  /-- a character or a framing error ended in the character time now running (R147) -/
  charSeen  : Bool
  deriving DecidableEq, Repr

/-! ### Readers and Punch Unit -/

/-- A read in progress (R44). -/
structure ReadInProgress where
  /-- the bits kept, oldest first, at most 40 -/
  bits    : List Bool
  /-- bit count, held at 255 -/
  count   : Nat
  spoiled : Bool
  /-- elapsed base at the end of the last pulse (R45) -/
  lastEnd : Nat
  /-- the ZERO rail was asserted for 25 ms and its pulse has not ended (R44, R45) -/
  zeroStuck : Bool
  /-- the ONE rail was asserted for 25 ms and its pulse has not ended (R44, R45) -/
  oneStuck : Bool
  deriving DecidableEq, Repr

/-- A lamp indication (R61) with the elapsed base at its start. -/
structure Indication where
  admitted : Bool
  start    : Nat
  deriving DecidableEq, Repr

/-- The tones of an indication (R61): whether a tone or a gap runs, the tones still to come, and its timer. -/
structure Tone where
  sounding : Bool
  toCome   : Nat
  timer    : Timer
  deriving DecidableEq, Repr

/-- An entry of a suppression list (R47). -/
structure Suppressed where
  badge : Nat
  time  : Nat
  deriving DecidableEq, Repr

/-- A reader channel (R43 to R47, R61). Its condition, ENABLED, DISABLED or OFF, follows from the station's state and the gate
role (Machine/Ops.lean). -/
structure Channel where
  read        : Option ReadInProgress
  suppression : List Suppressed
  indication  : Option Indication
  tone        : Option Tone
  deriving DecidableEq, Repr

/-- An entry of the waiting queue (R49), with the mark that it was counted as held (R51). -/
structure WaitEntry where
  reader : Reader
  badge  : Nat
  readAt : Nat
  held   : Bool
  deriving DecidableEq, Repr

/-- Kind of a pending punch (R57). -/
inductive PendingKind where
  | punch
  | passage
  deriving DecidableEq, Repr

/-- The pending punch (R57). -/
structure PendingPunch where
  kind         : PendingKind
  reader       : Reader
  badge        : Nat
  stamp        : Option Stamp
  softPassback : Bool
  unpaired     : Bool
  presence     : Option Presence
  deriving DecidableEq, Repr

/-! ### Release Controller -/

/-- States of the release cycle. -/
inductive Cycle where
  | off
  | idle
  | released
  | passing
  | heldOpen
  | forced
  | free
  deriving DecidableEq, Repr

/-- A latched input event (R64): the level changed to (true: open, pressed, asserted), and whether it was latched before the
controller left OFF (R66). -/
structure Latched where
  level : Bool
  early : Bool
  deriving DecidableEq, Repr

/-- A qualified input (R64, R66). Levels are read by polarity: true is open, pressed or asserted (R65). -/
structure Input where
  accepted : Option Bool
  /-- the last sample, while no level is accepted yet (R66) -/
  sample   : Option Bool
  /-- count of consecutive samples, 0..64 -/
  count    : Nat
  /-- events latched and not taken, oldest first -/
  latched  : List Latched
  deriving DecidableEq, Repr

/-- The Release Controller. -/
structure Gate where
  cycle        : Cycle
  releaseTimer : Option Timer
  holdTimer    : Option Timer
  door         : Input
  button       : Input
  freePassage  : Input
  /-- the elapsed base from which inputs are sampled; absent while they are not (R66, R82, R84) -/
  sampleFrom   : Option Nat
  deriving DecidableEq, Repr

/-! ### Configuration -/

/-- Gate role (R43). -/
inductive GateRole where
  | both
  | entryOnly
  | exitOnly
  deriving DecidableEq, Repr

/-- Passback policy (R52). -/
inductive Passback where
  | hard
  | soft
  | off
  deriving DecidableEq, Repr

/-- An entry of the shift table (R85). The day mask is one byte, bit 0 Monday (R151). -/
structure ShiftEntry where
  days       : Byte
  start      : Nat
  length     : Nat
  earlyIn    : Nat
  lateGrace  : Nat
  earlyLeave : Nat
  lateOut    : Nat
  unit       : Nat
  breakLength : Nat
  threshold  : Nat
  limit      : Nat
  limit2     : Nat
  deriving DecidableEq, Repr

/-- An entry of the bell schedule (R120). Masks are bytes: bit 0 Monday, bit 0 zone 1 (R151). -/
structure BellEntry where
  days    : Byte
  minute  : Nat
  zones   : Byte
  pattern : Pattern
  rush    : Nat
  deriving DecidableEq, Repr

/-- What the accepted configuration image gives (R151, R170), the trim apart (Timebase.trim). -/
structure Settings where
  station       : Nat
  zone          : Nat
  siteCode      : Nat
  /-- divisor D of the line speed (R139) -/
  divisor       : Nat
  gateRole      : GateRole
  passback      : Passback
  degrade       : Bool
  confirm       : Bool
  /-- door polarity OPEN LOW -/
  openLow       : Bool
  /-- qualification count Q -/
  q             : Nat
  releaseTime   : Nat
  rushTime      : Nat
  holdLimit     : Nat
  expectedPeers : Nat
  nightStart    : Nat
  nightEnd      : Nat
  rates         : List Nat
  shifts        : List ShiftEntry
  bells         : List BellEntry
  openLimit     : Nat
  shortLimit    : Nat
  idleText      : List Byte
  /-- sum of the image in use -/
  sum           : Nat
  deriving DecidableEq, Repr

/-! ### Bell Controller -/

/-- Origin of a ring (R129). -/
inductive RingOrigin where
  | scheduled
  | ringNow
  deriving DecidableEq, Repr

/-- A ring waiting to sound (R129). -/
structure Ring where
  pattern : Pattern
  origin  : RingOrigin
  deriving DecidableEq, Repr

/-- The sounder (R129). -/
inductive Sounder where
  | quiet
  | striking
  | gap
  | pause
  deriving DecidableEq, Repr

/-- What is sounding: a ring with the strokes after the present one, or a Bell Test with the destination and tag of its reply
(R135). -/
inductive Sounding where
  | ring (ring : Ring) (strokesLeft : Nat)
  | test (destination : Nat) (tag : Byte)
  deriving DecidableEq, Repr

/-- Bell state (R134). -/
inductive BellState where
  | ready
  | faultedShort
  | faultedOpen
  deriving DecidableEq, Repr

/-- The Bell Controller. The schedule and the limits stand in Settings. -/
structure Bell where
  /-- fired marks, one for each entry (R121) -/
  marks   : Vector Bool 32
  queue   : List Ring
  sounder : Sounder
  current : Option Sounding
  /-- the stroke, gap or pause running -/
  timer   : Option Timer
  /-- sum and number of the stroke's samples (R132) -/
  sum     : Nat
  number  : Nat
  /-- consecutive samples above the short limit -/
  aboveRun : Nat
  /-- highest sample of the stroke (R135) -/
  highest : Nat
  state   : BellState
  /-- rush window: closed, or open with its end as an absolute minute (R136) -/
  rush    : Option Nat
  deriving DecidableEq, Repr

/-! ### Request Handler, journal, panel -/

/-- Restart pending (R159), and the moment between its reply's leaving and the warm start. -/
inductive RestartState where
  | none
  | pending
  | replyLeft
  deriving DecidableEq, Repr

/-- Reasons of a refusal. -/
inductive Reason where
  | badRead
  | wrongSite
  | gateBusy
  | waitTimeout
  | noTime
  | unknown
  | barred
  | leaving
  | passback
  deriving DecidableEq, Repr

/-- Outcome of a journal entry (R161). -/
inductive JournalOutcome where
  | admittedIn
  | admittedOut
  | passageNoPunch
  | withdrawn
  | exitButton
  | remoteRelease
  | forced
  | heldOpen
  | refused (reason : Reason)
  deriving DecidableEq, Repr

/-- Announcement state of a journal entry (R161). -/
inductive Announcement where
  | none
  | queued
  | sent
  | lost
  deriving DecidableEq, Repr

/-- A journal entry (R161). -/
structure JournalEntry where
  sequence     : Nat
  stamp        : Stamp
  clockSet     : Bool
  /-- absent for reader NONE -/
  reader       : Option Reader
  badge        : Option Nat
  outcome      : JournalOutcome
  announcement : Announcement
  flags        : Option PunchFlags
  deriving DecidableEq, Repr

/-- The Punch Journal: entries oldest first, and the next sequence (R161). -/
structure Journal where
  entries : List JournalEntry
  next    : Nat
  deriving DecidableEq, Repr

/-- An overlay of row 1 (R166): the saved text and the timer. -/
structure Overlay where
  saved : List Byte
  timer : Timer
  deriving DecidableEq, Repr

/-- A row of the panel. -/
inductive Row where
  | one
  | two
  deriving DecidableEq, Repr

/-- A transfer on the panel link (R165): the row and the codes sent. That they are the codes the row held at the start of the transfer,
also when the row changes during it, is the model's choice (log entry 26). -/
structure Transfer where
  row   : Row
  codes : List Byte
  deriving DecidableEq, Repr

/-- The Panel Controller (R165 to R167). -/
structure Panel where
  row1     : List Byte
  row2     : List Byte
  base     : List Byte
  overlay  : Option Overlay
  mark1    : Bool
  mark2    : Bool
  transfer : Option Transfer
  /-- message texts, index 1 first -/
  messages : List (List Byte)
  deriving DecidableEq, Repr

/-! ### Supplies, starts and counters -/

/-- Where the station's power comes from: MAIN, BACKUP (R173), or neither, all state being lost. -/
inductive Supply where
  | main
  | backup
  | lost
  deriving DecidableEq, Repr

/-- Configured, UNCONFIGURED, or reading the configuration image (R169, R170). In BACKUP and while the reset pin is held it tells
what the station was. -/
inductive Run where
  | reading
  | configured
  | unconfigured
  deriving DecidableEq, Repr

/-- Start causes (R157). -/
inductive StartCause where
  | cold
  | warm
  | powerReturn
  deriving DecidableEq, Repr

/-- Outcome of the last configuration read (R169, R170). -/
inductive ReadOutcome where
  | notRead
  | accepted
  | memoryAbsent
  | badSum
  | badField (index : Nat)
  deriving DecidableEq, Repr

/-- The Supply Monitor and the Configuration Loader. -/
structure Starts where
  supply      : Supply
  /-- in BACKUP and without any state retained, the elapsed base at the last rise of the main supply, absent while it is below its
  threshold (R171, R174) -/
  mainUpSince : Option Nat
  /-- the reset pin is held asserted (R172) -/
  pinHeld     : Bool
  run         : Run
  /-- tries of the read that failed (R169) -/
  failedTries : Nat
  /-- the 10 ms wait between two tries, by the elapsed base at its start; absent while a try runs -/
  waitSince   : Option Nat
  outcome     : ReadOutcome
  cause       : StartCause
  deriving DecidableEq, Repr

/-- The 38 counters of Read Status, each at its own index; index 18 is unused and stays 0 (R157). -/
abbrev Counters := Vector Nat 38

/-- The station. -/
structure State where
  starts       : Starts
  timebase     : Timebase
  clock        : Clock
  /-- ADVANCE announcements that fell due and are not handed on yet, oldest first (R7, R9) -/
  announcements : List Advance
  peers        : PeerTable
  /-- the roster, in ascending badge number (R22) -/
  roster       : List Record
  entryChannel : Channel
  exitChannel  : Channel
  /-- the Punch Unit's waiting queue, oldest first (R49) -/
  waiting      : List WaitEntry
  pendingPunch : Option PendingPunch
  gate         : Gate
  settings     : Settings
  bell         : Bell
  line         : Line
  restart      : RestartState
  journal      : Journal
  panel        : Panel
  counters     : Counters
  /-- the commands waiting to be taken, first in, first out -/
  pending      : List Instr
  deriving DecidableEq, Repr

/-- Why the station stops. -/
inductive Fault where
  /-- Raised by CONFIG_READ_COMPLETE alone, when the bytes given to it are not 512: no completed try has another number of bytes
  (R169), so the command is not one the outside can give. Safe. -/
  | imageLength
  deriving DecidableEq, Repr

/-- Why a command has no meaning. -/
inductive Refusal where
  /-- Raised by exec for a command that has no meaning yet; no arm raises it. Safe. -/
  | notModelled (mnemonic : String)
  deriving DecidableEq, Repr

/-! ### The state right after a cold start -/

/-- R107: an empty slot with a tag. -/
def WeekSlot.emptyWith (tag : Nat) : WeekSlot :=
  { tag := tag, regular := 0, ot1 := 0, ot2 := 0, night := 0, credits := 0, pay := 0, intervals := 0, saturated := false,
    unpairedSeen := false, abandonedSeen := false, collected := false }

/-- R85: a shift entry before the first image: 0 in each item, an empty day mask and a rounding unit of 1. -/
def ShiftEntry.blank : ShiftEntry :=
  { days := 0, start := 0, length := 0, earlyIn := 0, lateGrace := 0, earlyLeave := 0, lateOut := 0, unit := 1,
    breakLength := 0, threshold := 0, limit := 0, limit2 := 0 }

/-- R120: a bell entry before the first image: empty masks. The other items are log entry 2's. -/
def BellEntry.blank : BellEntry :=
  { days := 0, minute := 0, zones := 0, pattern := .long, rush := 0 }

/-- Sixteen spaces (R168). -/
def spaces : List Byte := List.replicate 16 0x20#8

/-- R85, R86, R120: the tables before the first image. The other items are log entry 2's. -/
def Settings.blank : Settings :=
  { station := 0, zone := 0, siteCode := 0, divisor := 23, gateRole := .both, passback := .hard, degrade := false,
    confirm := false, openLow := false, q := 0, releaseTime := 0, rushTime := 0, holdLimit := 0, expectedPeers := 0,
    nightStart := 0, nightEnd := 0, rates := List.replicate 8 0, shifts := List.replicate 12 ShiftEntry.blank,
    bells := List.replicate 32 BellEntry.blank, openLimit := 0, shortLimit := 0, idleText := spaces, sum := 0 }

/-- R43, R62: a channel with no read, no suppression and no indication. -/
def Channel.empty : Channel := { read := none, suppression := [], indication := none, tone := none }

/-- R66: an input with no accepted level. -/
def Input.unknown : Input := { accepted := none, sample := none, count := 0, latched := [] }

/-- R83: the release cycle at the start. -/
def Gate.initial : Gate :=
  { cycle := .off, releaseTimer := none, holdTimer := none, door := Input.unknown, button := Input.unknown,
    freePassage := Input.unknown, sampleFrom := none }

/-- R150: the line at a start, before the start point. The generator's value here is log entry 2's. -/
def Line.initial : Line :=
  { rx := [], assembly := none, tx := [], reserved := 0, attempt := none, idle := 0, backoff := 0, generator := 0,
    receiving := false, startSeen := false, charSeen := false }

/-- R121, R134, R138: the bell after a cold start. -/
def Bell.initial : Bell :=
  { marks := Vector.replicate 32 false, queue := [], sounder := .quiet, current := none, timer := none, sum := 0, number := 0,
    aboveRun := 0, highest := 0, state := .ready, rush := none }

/-- R168: the panel after a cold start, until the configuration read ends; the rows are log entry 2's. -/
def Panel.initial : Panel :=
  { row1 := spaces, row2 := spaces, base := spaces, overlay := none, mark1 := false, mark2 := false, transfer := none,
    messages := List.replicate 8 spaces }

/-- R21: the peer table at a start. -/
def PeerTable.initial : PeerTable := { entries := [], beacon := none, duplicate := none }

/-- R171: right after a cold start. The main supply is qualified, nothing is retained, and the first try of the configuration
read runs. -/
def State.reset : State :=
  { starts := { supply := .main, mainUpSince := none, pinHeld := false, run := .reading, failedTries := 0, waitSince := none,
                outcome := .notRead, cause := .cold }
    timebase := { elapsed := 0, msInSecond := 0, trim := 0, secondTrim := 0, secondTicksDue := 0 }
    clock := { week := 0, minute := 0, second := 0, subMs := 0, isSet := false }
    announcements := []
    peers := PeerTable.initial
    roster := []
    entryChannel := Channel.empty
    exitChannel := Channel.empty
    waiting := []
    pendingPunch := none
    gate := Gate.initial
    settings := Settings.blank
    bell := Bell.initial
    line := Line.initial
    restart := .none
    journal := { entries := [], next := 0 }
    panel := Panel.initial
    counters := Vector.replicate 38 0
    pending := [] }

end Sys2Proof.Machine
end

