-- ==== Sys2Proof/Machine/Flags.lean ====
section
/-! DEFINITION. The flag and mask bytes of the layouts (R151, R156 to R158, R163): each flag at the bit the tables name; bits they
do not name are sent as 0 and are not read. -/

namespace Sys2Proof.Machine

/-- The weight of a flag at a bit. -/
def flagBit (i : Nat) (c : Bool) : Nat := if c then 2 ^ i else 0

/-- A byte from a number below 256. -/
def byteOf (n : Nat) : Byte := BitVec.ofNat 8 n

/-- R151: bits 0 to 3 of the flags byte of a PUNCH body; also a journal entry's flags at bits 4 to 7 (R163). -/
def PunchFlags.nibble (f : PunchFlags) : Nat :=
  flagBit 0 f.softPassback + flagBit 1 f.unpaired + flagBit 2 f.crossed + flagBit 3 f.delivered

/-- R151: the flags of a PUNCH body, from byte 6. -/
def punchFlagsOf (b : Byte) : PunchFlags :=
  { softPassback := b.getLsbD 0, unpaired := b.getLsbD 1, crossed := b.getLsbD 2, delivered := b.getLsbD 3 }

/-- R59: a punch without flags. -/
def PunchFlags.clear : PunchFlags := { softPassback := false, unpaired := false, crossed := false, delivered := false }

/-- R151: the result flags byte. -/
def ResultFlags.byte (f : ResultFlags) : Byte :=
  byteOf (flagBit 0 f.offDay + flagBit 1 f.noShift + flagBit 2 f.nullSpan + flagBit 3 f.negative + flagBit 4 f.overlong +
    flagBit 5 f.breakDeducted + flagBit 6 f.stale)

/-- R151: the result flags, from byte 33 of a RESULT part. -/
def resultFlagsOf (b : Byte) : ResultFlags :=
  { offDay := b.getLsbD 0, noShift := b.getLsbD 1, nullSpan := b.getLsbD 2, negative := b.getLsbD 3, overlong := b.getLsbD 4,
    breakDeducted := b.getLsbD 5, stale := b.getLsbD 6 }

/-- R102: no flag set. -/
def ResultFlags.clear : ResultFlags :=
  { offDay := false, noShift := false, nullSpan := false, negative := false, overlong := false, breakDeducted := false,
    stale := false }

/-- R94: a result whose span is taken as 0. -/
def ResultFlags.zero (f : ResultFlags) : Bool := f.noShift || f.negative || f.overlong || f.nullSpan

/-- R106: how many of NO SHIFT, NEGATIVE, OVERLONG and NULL SPAN are set. -/
def ResultFlags.zeroCount (f : ResultFlags) : Nat :=
  flagBit 0 f.noShift + flagBit 0 f.negative + flagBit 0 f.overlong + flagBit 0 f.nullSpan

/-- R151: bits 0 to 3 of a BEACON's status; at bits 4 to 7 of a PEERS entry (R158). -/
def BeaconFlags.nibble (f : BeaconFlags) : Nat :=
  flagBit 0 f.clockSet + flagBit 1 f.isolated + flagBit 2 f.bellFault + flagBit 3 f.duplicate

/-- R151: the status flags of a BEACON. -/
def beaconFlagsOf (b : Byte) : BeaconFlags :=
  { clockSet := b.getLsbD 0, isolated := b.getLsbD 1, bellFault := b.getLsbD 2, duplicate := b.getLsbD 3 }

/-- R156: the four flags of a week slot in Read Totals, COLLECTED as given. -/
def WeekSlot.nibble (w : WeekSlot) (collected : Bool) : Nat :=
  flagBit 0 w.saturated + flagBit 1 w.unpairedSeen + flagBit 2 w.abandonedSeen + flagBit 3 collected

/-- R158: byte 1 of a PEERS entry. -/
def Peer.statusByte (p : Peer) : Byte :=
  byteOf (flagBit 0 (p.role == .office) + flagBit 1 (p.state == .silent) + flagBit 2 p.lagging + 16 * p.flags.nibble)

end Sys2Proof.Machine
end

