-- ==== Sys2Proof/Machine/Operands.lean ====
section
/-! DEFINITION. How numbers, stamps and parts are laid out in frames (R142, R151): the frame check, the bodies the station sends
and reads, and the parameters of requests. -/

namespace Sys2Proof.Machine

/-! ### Numbers (R151: high byte first) -/

/-- A number in one byte. -/
def put1 (n : Nat) : List Byte := [byteOf n]

/-- A number in two bytes. -/
def put2 (n : Nat) : List Byte := [byteOf (n / 256), byteOf n]

/-- A number in three bytes. -/
def put3 (n : Nat) : List Byte := byteOf (n / 65536) :: put2 n

/-- A number in four bytes. -/
def put4 (n : Nat) : List Byte := byteOf (n / 16777216) :: put3 n

/-- All ones in k bytes: an absent value. -/
def ones (k : Nat) : List Byte := List.replicate k 0xFF#8

/-- The number bytes spell, high byte first. -/
def getNat (bytes : List Byte) : Nat := bytes.foldl (fun a b => a * 256 + b.toNat) 0

/-- The bytes of a body from an offset. -/
def slice (body : List Byte) (at_ size : Nat) : List Byte := (body.drop at_).take size

/-- The number at an offset of a body. -/
def get (body : List Byte) (at_ size : Nat) : Nat := getNat (slice body at_ size)

/-- The byte at an offset of a body, 0 beyond its end. -/
def getByte (body : List Byte) (at_ : Nat) : Byte := body.getD at_ 0

/-- R151: a signed number in two bytes, two's complement. -/
def putSigned2 (t : Int) : List Byte := put2 (t % 65536).toNat

/-- R151: the signed number two bytes spell. -/
def signed2 (n : Nat) : Int := if n < 32768 then (n : Int) else (n : Int) - 65536

/-- R151: a stamp in five bytes. -/
def putStamp (a : Stamp) : List Byte := put2 a.week ++ put2 a.minute ++ put1 a.second

/-- R151: the stamp at an offset. -/
def getStamp (body : List Byte) (at_ : Nat) : Stamp :=
  { week := get body at_ 2, minute := get body (at_ + 2) 2, second := get body (at_ + 4) 1 }

/-- R6: the ranges of a stamp's minute of week and second. -/
def Stamp.inRange (a : Stamp) : Bool := decide (a.minute < Config.minutesPerWeek) && decide (a.second < 60)

/-- R151: an optional absolute minute, all ones when absent. -/
def putOptAbs (a : Option Nat) : List Byte :=
  match a with
  | none => ones 4
  | some n => put4 n

/-- R151: the optional absolute minute at an offset. -/
def getOptAbs (body : List Byte) (at_ : Nat) : Option Nat :=
  if get body at_ 4 = 4294967295 then none else some (get body at_ 4)

/-- "Numbers": a badge number. -/
def badgeInRange (n : Nat) : Bool := decide (1 ≤ n) && decide (n ≤ 16777214)

/-- R5: an absolute minute in its range. -/
def absInRange (n : Nat) : Bool := decide (n < Config.absModulus)

/-! ### The check of a frame (R142) -/

/-- R142: one bit through the check register. -/
def crcBit (reg : BitVec 16) (bit : Bool) : BitVec 16 :=
  if reg.msb != bit then (reg <<< 1) ^^^ 0x1021#16 else reg <<< 1

/-- R142: one byte, most significant bit first. -/
def crcByte (reg : BitVec 16) (b : Byte) : BitVec 16 :=
  [7, 6, 5, 4, 3, 2, 1, 0].foldl (fun r i => crcBit r (b.getLsbD i)) reg

/-- R142: the check over the bytes from the head through the last body byte. -/
def crc (bytes : List Byte) : BitVec 16 := bytes.foldl crcByte 0xFFFF#16

/-- R142: the two characters of a check, the high byte first. -/
def crcBytes (bytes : List Byte) : List Byte := put2 (crc bytes).toNat

/-! ### Frames (R141, R151) -/

/-- R151: the kind codes. -/
def FrameKind.code (k : FrameKind) : Byte :=
  match k with
  | .punch => 0x01#8
  | .ring => 0x03#8
  | .request => 0x07#8
  | .reply => 0x0F#8
  | .beacon => 0x1F#8

/-- R143, test 5: the kind a head byte names. -/
def frameKindOf (b : Byte) : Option FrameKind :=
  if b = 0x01#8 then some .punch
  else if b = 0x03#8 then some .ring
  else if b = 0x07#8 then some .request
  else if b = 0x0F#8 then some .reply
  else if b = 0x1F#8 then some .beacon
  else none

/-- R151: the bytes of a frame with its check. -/
def frameBytes (kind : FrameKind) (source destination : Nat) (body : List Byte) : List Byte :=
  let bytes := [kind.code, byteOf body.length, byteOf source, byteOf destination] ++ body
  bytes ++ crcBytes bytes

/-- R143, test 5: a body length permitted for its kind. -/
def lengthPermitted (kind : FrameKind) (body : List Byte) : Bool :=
  match kind with
  | .beacon => decide (body.length = 10)
  | .ring => decide (body.length = 8)
  | .request => decide (2 ≤ body.length) && decide (body.length ≤ Config.bodyMax)
  | .reply => decide (3 ≤ body.length) && decide (body.length ≤ Config.bodyMax)
  | .punch =>
    let parts := getByte body 5
    decide (12 ≤ body.length) &&
      decide (body.length = 12 + (if parts.getLsbD 1 then 6 else 0) + (if parts.getLsbD 2 then 6 else 0) +
        (if parts.getLsbD 3 then 34 else 0))

/-! ### PUNCH (R59, R151) -/

/-- R151: the code of an occurrence kind. -/
def OccKind.code (k : OccKind) : Nat :=
  match k with
  | .scheduled => 0
  | .offDay => 1
  | .noShift => 2

/-- R151: the occurrence kind a code names. -/
def occKindOf (n : Nat) : Option OccKind :=
  if n = 0 then some .scheduled else if n = 1 then some .offDay else if n = 2 then some .noShift else none

/-- R151: the OCCURRENCE part. -/
def Occurrence.bytes (o : Occurrence) : List Byte := put1 o.code ++ put1 o.kind.code ++ putOptAbs o.start

/-- R151: an interval key or the SUPERSEDED part. -/
def PunchKey.bytes (k : PunchKey) : List Byte := putStamp k.stamp ++ put1 k.station

/-- R151: the RESULT part. -/
def PayResult.bytes (r : PayResult) : List Byte :=
  r.key.bytes ++ putOptAbs r.start ++ put4 r.effIn ++ put4 r.effOut ++ put2 r.regular ++ put2 r.ot1 ++ put2 r.ot2 ++
    put2 r.night ++ put2 r.breakMinutes ++ put2 r.credits ++ put3 r.pay ++ [r.flags.byte]

/-- R151: byte 5 of a PUNCH body. -/
def PunchNotice.partsByte (n : PunchNotice) : Byte :=
  byteOf (flagBit 0 (n.direction == .outward) + flagBit 1 n.occurrence.isSome + flagBit 2 n.superseded.isSome +
    flagBit 3 n.result.isSome)

/-- R151: the PUNCH body with its parts in the order OCCURRENCE, SUPERSEDED, RESULT. -/
def PunchNotice.bytes (n : PunchNotice) : List Byte :=
  put2 n.sequence ++ put3 n.badge ++ [n.partsByte] ++ [byteOf n.flags.nibble] ++ putStamp n.stamp ++
    (match n.occurrence with | none => [] | some o => o.bytes) ++
    (match n.superseded with | none => [] | some k => k.bytes) ++
    (match n.result with | none => [] | some r => r.bytes)

/-- R151: the interval key at an offset. -/
def getKey (body : List Byte) (at_ : Nat) : PunchKey :=
  { stamp := getStamp body at_, station := get body (at_ + 5) 1 }

/-- R151: the RESULT part at an offset. -/
def getResult (body : List Byte) (at_ : Nat) : PayResult :=
  { key := getKey body at_
    start := getOptAbs body (at_ + 6)
    effIn := get body (at_ + 10) 4
    effOut := get body (at_ + 14) 4
    regular := get body (at_ + 18) 2
    ot1 := get body (at_ + 20) 2
    ot2 := get body (at_ + 22) 2
    night := get body (at_ + 24) 2
    breakMinutes := get body (at_ + 26) 2
    credits := get body (at_ + 28) 2
    pay := get body (at_ + 30) 3
    flags := resultFlagsOf (getByte body (at_ + 33)) }

/-- R151: a PUNCH body of a permitted length (R143) read as a notice; none when an OCCURRENCE part names no occurrence kind
(R31). -/
def getPunch (body : List Byte) : Option PunchNotice :=
  let parts := getByte body 5
  let afterOcc := if parts.getLsbD 1 then 18 else 12
  let afterSup := if parts.getLsbD 2 then afterOcc + 6 else afterOcc
  let base : PunchNotice :=
    { sequence := get body 0 2, badge := get body 2 3,
      direction := if parts.getLsbD 0 then .outward else .inward,
      flags := punchFlagsOf (getByte body 6), stamp := getStamp body 7, occurrence := none,
      superseded := if parts.getLsbD 2 then some (getKey body afterOcc) else none,
      result := if parts.getLsbD 3 then some (getResult body afterSup) else none }
  if parts.getLsbD 1 then
    match occKindOf (get body 13 1) with
    | none => none
    | some kind => some { base with occurrence := some { code := get body 12 1, kind := kind, start := getOptAbs body 14 } }
  else some base

/-! ### BEACON and RING (R151) -/

/-- R151: the BEACON body of a gate station. -/
def BeaconBody.bytes (b : BeaconBody) : List Byte :=
  put1 b.roleCode ++ put1 b.zone ++ [byteOf b.flags.nibble] ++ putStamp b.stamp ++ put2 b.records

/-- R151: a BEACON body read. -/
def getBeacon (body : List Byte) : BeaconBody :=
  { roleCode := get body 0 1, zone := get body 1 1, flags := beaconFlagsOf (getByte body 2), stamp := getStamp body 3,
    records := get body 8 2 }

/-- R151: the pattern byte. -/
def Pattern.byte (p : Pattern) : Byte :=
  match p with
  | .long => 0x00#8
  | .double => 0x40#8
  | .triple => 0x80#8
  | .continuous n => byteOf (0xC0 + n)

/-- R151: bits 4–0 of a pattern byte. -/
def patternLength (b : Byte) : Nat := b.toNat % 32

/-- R151: the pattern a byte names. -/
def patternOf (b : Byte) : Pattern :=
  if b.toNat / 64 = 0 then .long
  else if b.toNat / 64 = 1 then .double
  else if b.toNat / 64 = 2 then .triple
  else .continuous (patternLength b)

/-- R128: the pattern check of a RING notice: a CONTINUOUS length of 1..30. -/
def ringPatternOk (b : Byte) : Bool :=
  if b.toNat / 64 = 3 then decide (1 ≤ patternLength b) && decide (patternLength b ≤ 30) else true

/-- R155, R170: CONTINUOUS with length 1..30, or another pattern with length 0. -/
def patternOk (b : Byte) : Bool :=
  if b.toNat / 64 = 3 then decide (1 ≤ patternLength b) && decide (patternLength b ≤ 30) else decide (patternLength b = 0)

/-- R151: the RING body. -/
def RingNotice.bytes (r : RingNotice) : List Byte :=
  put1 r.zone ++ put1 r.index ++ put2 r.week ++ put1 r.day ++ put2 r.minute ++ [r.pattern.byte]

/-- R151: a RING body read. -/
def getRing (body : List Byte) : RingNotice :=
  { zone := get body 0 1, index := get body 1 1, week := get body 2 2, day := get body 4 1, minute := get body 5 2,
    pattern := patternOf (getByte body 7) }

/-! ### REPLY (R151, R153) -/

/-- R151: the status codes. -/
def ReplyStatus.code (s : ReplyStatus) : Nat :=
  match s with
  | .done => 0
  | .noRecord => 1
  | .full => 2
  | .badValue => 3
  | .wrongState => 4

/-- R151: the REPLY body. -/
def Reply.bytes (r : Reply) : List Byte := [r.kind, r.tag] ++ put1 r.status.code ++ r.data

end Sys2Proof.Machine
end

