-- ==== Sys2Proof/Machine/Time.lean ====
section
/-! DEFINITION. Arithmetic of the timebase, of elapsed timers, of absolute minutes and of stamps (R1, R2, R5, R6). -/

namespace Sys2Proof.Machine

/-! ### Timebase (R1, R2) -/

/-- R1: crystal cycles of a trimmed second. -/
def secondCycles (trim : Int) : Int := Config.crystalPerSecond - trim

/-- R1: crystal cycles between the tick before tick n (1..1,000) of a second and tick n. -/
def tickCycles (trim : Int) (n : Nat) : Int :=
  if n < 1000 then Config.crystalPerTick else Config.crystalLastTick - trim

/-- R2: the elapsed base less a start value, modulo 4,294,967,296. -/
def elapsedSince (now start : Nat) : Nat :=
  (now + (Config.elapsedModulus - start % Config.elapsedModulus)) % Config.elapsedModulus

/-- R2: a span of elapsed time since a start value has been reached. -/
def reached (now start duration : Nat) : Bool := decide (duration ≤ elapsedSince now start)

/-- R2: a timer has expired. -/
def Timer.due (t : Timer) (now : Nat) : Bool := reached now t.start t.duration

/-- R2: an optional timer runs and has expired. -/
def timerDue (t : Option Timer) (now : Nat) : Bool :=
  match t with
  | none => false
  | some t => t.due now

/-! ### Absolute minutes (R5) -/

/-- R5: the absolute minute of a week and a minute of week. -/
def absMinute (week minute : Nat) : Nat := week * Config.minutesPerWeek + minute

/-- R5: the difference A less B of two absolute minutes. -/
def absDiff (a b : Nat) : Int :=
  let r := (a + (Config.absModulus - b % Config.absModulus)) % Config.absModulus
  if Config.absHalf ≤ r then (r : Int) - Config.absModulus else r

/-- R5: the sum of an absolute minute and a number of minutes. -/
def absAdd (a : Nat) (k : Int) : Nat := (((a : Int) + k) % Config.absModulus).toNat

/-- R5: day of week of a minute of week. -/
def dayOfWeek (minute : Nat) : Nat := minute / Config.minutesPerDay

/-- R5: minute of day of a minute of week. -/
def minuteOfDay (minute : Nat) : Nat := minute % Config.minutesPerDay

/-- R86: minute of day of an absolute minute. -/
def absMinuteOfDay (a : Nat) : Nat := minuteOfDay (a % Config.minutesPerWeek)

/-- R90: day of week of an absolute minute. -/
def absDayOfWeek (a : Nat) : Nat := dayOfWeek (a % Config.minutesPerWeek)

/-! ### Stamps (R6) -/

/-- R5: the absolute minute of a stamp. -/
def Stamp.abs (a : Stamp) : Nat := absMinute a.week a.minute

/-- R6: the clock difference A less B, in seconds. -/
def clockDiff (a b : Stamp) : Int :=
  60 * absDiff a.abs b.abs + ((a.second : Int) - (b.second : Int))

/-- R6: A is later than B. -/
def Stamp.laterThan (a b : Stamp) : Bool := decide (0 < clockDiff a b)

/-- R32, "Punch order key": one key is later than another. -/
def PunchKey.laterThan (a b : PunchKey) : Bool :=
  decide (0 < clockDiff a.stamp b.stamp) ||
    (decide (clockDiff a.stamp b.stamp = 0) && decide (b.station < a.station))

/-- R6: the stamp the site clock gives. -/
def Clock.stamp (c : Clock) : Stamp := { week := c.week, minute := c.minute, second := c.second }

/-- R5: the absolute minute the site clock shows. -/
def Clock.abs (c : Clock) : Nat := absMinute c.week c.minute

/-- R40, R25, R6: the last out stamp of an accumulator takes a stamp when it is absent or earlier than it. -/
def latestStamp (old : Option Stamp) (new : Stamp) : Option Stamp :=
  match old with
  | none => some new
  | some o => if clockDiff o new < 0 then some new else some o

end Sys2Proof.Machine
end

