-- ==== Sys2Proof/Machine/Ops.lean ====
section
/-! DEFINITION. The operations the blocks share: the conditions of the station, the counters, the free space of the transmit
queue, and the Punch Unit's test of its waiting queue. -/

namespace Sys2Proof.Machine

/-! ### Conditions of the station -/

/-- Configured, in main power and not held by the reset pin: the gate, the readers, the line, the bell and the requests work
(R51, R63, R147, R152). -/
def running (s : State) : Bool :=
  s.starts.supply == .main && !s.starts.pinHeld && s.starts.run == .configured

/-- UNCONFIGURED and in main power (R84, R170). -/
def unconfiguredMain (s : State) : Bool :=
  s.starts.supply == .main && !s.starts.pinHeld && s.starts.run == .unconfigured

/-- The configuration read runs (R169). -/
def readRuns (s : State) : Bool :=
  s.starts.supply == .main && !s.starts.pinHeld && s.starts.run == .reading

/-- The panel runs (R168): in main power, from the end of the configuration read on. -/
def panelRuns (s : State) : Bool :=
  s.starts.supply == .main && !s.starts.pinHeld && s.starts.run != .reading

/-- R9: announcements are held while the configuration read runs, and are handed on in every other state (log entry 11: while
the reset pin is held too). -/
def announcementsHeld (s : State) : Bool := readRuns s

/-- R173: the main or the backup supply holds the station. -/
def powered (s : State) : Bool := s.starts.supply != .lost

/-- The elapsed base as it stands (R2). -/
def State.now (s : State) : Nat := s.timebase.elapsed

/-- R136: the rush window is open. -/
def State.rushOpen (s : State) : Bool := s.bell.rush.isSome

/-- R19: the station is ISOLATED. -/
def isolated (s : State) : Bool :=
  s.starts.run == .configured && decide (1 ≤ s.settings.expectedPeers) &&
    !s.peers.entries.any (fun p => p.role == .gate && p.state == .live)

/-- R11, R134: BELL FAULT. -/
def bellFault (s : State) : Bool := s.bell.state != .ready

/-- R20: the DUPLICATE NUMBER flag. -/
def duplicateNumber (s : State) : Bool := s.peers.duplicate.isSome

/-- R11: the status flags of the station's beacon. -/
def stationFlags (s : State) : BeaconFlags :=
  { clockSet := s.clock.isSet, isolated := isolated s, bellFault := bellFault s, duplicate := duplicateNumber s }

/-! ### Reader channels (R43) -/

/-- R43: whether the gate role enables a channel. -/
def roleEnables (role : GateRole) (r : Reader) : Bool :=
  match role, r with
  | .both, _ => true
  | .entryOnly, .entry => true
  | .entryOnly, .exit => false
  | .exitOnly, .entry => false
  | .exitOnly, .exit => true

/-- R43: the channel is ENABLED. -/
def channelEnabled (s : State) (r : Reader) : Bool := running s && roleEnables s.settings.gateRole r

/-- The channel of a reader. -/
def State.channel (s : State) (r : Reader) : Channel :=
  match r with
  | .entry => s.entryChannel
  | .exit => s.exitChannel

/-- The state with the channel of a reader replaced. -/
def State.setChannel (s : State) (r : Reader) (c : Channel) : State :=
  match r with
  | .entry => { s with entryChannel := c }
  | .exit => { s with exitChannel := c }

/-- The direction of a reader. -/
def readerDirection (r : Reader) : Direction :=
  match r with
  | .entry => .inward
  | .exit => .outward

/-! ### Counters -/

/-- The counters by name. -/
inductive Counter where
  | beaconSkipped
  | beaconInvalid
  | peerTableFull
  | duplicateHeard
  | clockAdopted
  | enrolDropped
  | punchInvalid
  | punchUnknownBadge
  | punchLate
  | intervalAbandoned
  | resultDuplicate
  | resultStale
  | orphanCommit
  | repeatIgnored
  | decisionHeld
  | uncollectedOverwritten
  | collectedCredited
  | entryMissed
  | bellSkipped
  | ringDropped
  | ringNoticeSkipped
  | ringInvalid
  | ringIgnored
  | scheduleMismatch
  | openStroke
  | lineFramingError
  | frameTruncated
  | frameMalformed
  | frameBadCheck
  | receiveOverrun
  | collision
  | frameGiveUp
  | foreignSource
  | notBroadcast
  | requestInvalid
  | replyDropped
  | journalOverwritten
  deriving DecidableEq, Repr

/-- R157: the index of a counter in section COUNTERS; index 18 belongs to none. -/
def Counter.index (c : Counter) : Fin 38 :=
  match c with
  | .beaconSkipped => 0
  | .beaconInvalid => 1
  | .peerTableFull => 2
  | .duplicateHeard => 3
  | .clockAdopted => 4
  | .enrolDropped => 5
  | .punchInvalid => 6
  | .punchUnknownBadge => 7
  | .punchLate => 8
  | .intervalAbandoned => 9
  | .resultDuplicate => 10
  | .resultStale => 11
  | .orphanCommit => 12
  | .repeatIgnored => 13
  | .decisionHeld => 14
  | .uncollectedOverwritten => 15
  | .collectedCredited => 16
  | .entryMissed => 17
  | .bellSkipped => 19
  | .ringDropped => 20
  | .ringNoticeSkipped => 21
  | .ringInvalid => 22
  | .ringIgnored => 23
  | .scheduleMismatch => 24
  | .openStroke => 25
  | .lineFramingError => 26
  | .frameTruncated => 27
  | .frameMalformed => 28
  | .frameBadCheck => 29
  | .receiveOverrun => 30
  | .collision => 31
  | .frameGiveUp => 32
  | .foreignSource => 33
  | .notBroadcast => 34
  | .requestInvalid => 35
  | .replyDropped => 36
  | .journalOverwritten => 37

/-- The value of a counter. -/
def State.counter (s : State) (c : Counter) : Nat := s.counters.get c.index

/-- "Counters": a counter is incremented n times, held at 65,535. -/
def addCount (c : Counter) (n : Nat) (s : State) : State :=
  { s with counters := s.counters.set c.index.val (min Config.counterMax (s.counters.get c.index + n)) c.index.isLt }

/-- "Counters": a counter is incremented, held at 65,535. -/
def bump (c : Counter) (s : State) : State := addCount c 1 s

/-- A counter is incremented when a condition holds. -/
def bumpIf (cond : Bool) (c : Counter) (s : State) : State := if cond then bump c s else s

/-! ### Transmit space and the test of the waiting queue (R51, R145) -/

/-- R145: the free unreserved space of the transmit queue. -/
def txSpace (s : State) : Nat := Config.txMax - (s.line.tx.length + s.line.reserved)

/-- R51: the release cycle lets the Punch Unit decide. -/
def Cycle.decides (c : Cycle) : Bool := c == .idle || c == .free

/-- R51: the Punch Unit tests its queue. A head that the release cycle would let be decided and that finds no transmit space is
held, and counted once. A head that may be decided is decided by DECIDE_HEAD. -/
def testHead (s : State) : State :=
  match s.waiting with
  | [] => s
  | h :: rest =>
    if running s && s.gate.cycle.decides && decide (txSpace s = 0) && !h.held then
      bump .decisionHeld { s with waiting := { h with held := true } :: rest }
    else s

/-- R49: the capacity of the waiting queue. -/
def waitingCapacity (s : State) : Nat := if s.rushOpen then Config.rushCapacity else Config.plainCapacity

end Sys2Proof.Machine
end

