-- ==== Sys2Proof/Machine/Journal.lean ====
section
/-! DEFINITION. The Punch Journal: writing an entry, marking it SENT or LOST, and the reply to Read Journal (R161 to R163). -/

namespace Sys2Proof.Machine

/-- R161: an entry is written at the tail under the next sequence number; the oldest of 512 makes room and is counted. -/
def writeJournal (stamp : Stamp) (reader : Option Reader) (badge : Option Nat) (outcome : JournalOutcome)
    (announcement : Announcement) (flags : Option PunchFlags) (s : State) : State :=
  let full := decide (Config.journalMax ≤ s.journal.entries.length)
  let entry : JournalEntry :=
    { sequence := s.journal.next, stamp := stamp, clockSet := s.clock.isSet, reader := reader, badge := badge,
      outcome := outcome, announcement := announcement, flags := flags }
  bumpIf full .journalOverwritten
    { s with journal := { entries := (if full then s.journal.entries.tail else s.journal.entries) ++ [entry],
                          next := (s.journal.next + 1) % 65536 } }

/-- An entry of the Release Controller: reader NONE, no badge, the site clock as its stamp, announcement NONE (R70, R72). The stamp
is the clock at the moment the event is taken, not at the moment it was latched: the model's choice (log entry 8). -/
def writeGateEntry (outcome : JournalOutcome) (s : State) : State :=
  writeJournal s.clock.stamp none none outcome .none none s

/-- R162: the outcome is ADMITTED IN or ADMITTED OUT. -/
def JournalOutcome.isAdmitted (o : JournalOutcome) : Bool := o == .admittedIn || o == .admittedOut

/-- R162: the entry is the one written for a notice. -/
def JournalEntry.isFor (e : JournalEntry) (n : PunchNotice) : Bool :=
  decide (e.sequence = n.sequence) && e.outcome.isAdmitted && e.announcement == .queued && e.badge == some n.badge

/-- R162: the entry written for a notice is marked SENT or LOST; any other entry stays as it is. -/
def markJournal (n : PunchNotice) (mark : Announcement) (s : State) : State :=
  { s with journal := { s.journal with
      entries := s.journal.entries.map (fun e => if e.isFor n then { e with announcement := mark } else e) } }

/-! ### Read Journal (R163) -/

/-- R163: the number of an outcome. -/
def JournalOutcome.code (o : JournalOutcome) : Nat :=
  match o with
  | .admittedIn => 0
  | .admittedOut => 1
  | .passageNoPunch => 2
  | .withdrawn => 3
  | .exitButton => 4
  | .remoteRelease => 5
  | .forced => 6
  | .heldOpen => 7
  | .refused .badRead => 8
  | .refused .wrongSite => 9
  | .refused .gateBusy => 10
  | .refused .waitTimeout => 11
  | .refused .noTime => 12
  | .refused .unknown => 13
  | .refused .barred => 14
  | .refused .leaving => 15
  | .refused .passback => 16

/-- R163: the number of a reader. -/
def readerCode (r : Option Reader) : Nat :=
  match r with
  | none => 0
  | some .entry => 1
  | some .exit => 2

/-- R163: the number of an announcement state. -/
def Announcement.code (a : Announcement) : Nat :=
  match a with
  | .none => 0
  | .queued => 1
  | .sent => 2
  | .lost => 3

/-- R163: the eight bytes of an entry in a reply. -/
def JournalEntry.bytes (e : JournalEntry) : List Byte :=
  put2 e.stamp.minute ++ put1 e.stamp.second ++
    (match e.badge with | none => ones 3 | some b => put3 b) ++
    put1 (e.outcome.code + 32 * readerCode e.reader + flagBit 7 e.clockSet) ++
    put1 (e.announcement.code + 16 * (match e.flags with | none => 0 | some f => f.nibble))

/-- R163: the sequence of the oldest entry, or the next sequence for an empty journal. -/
def Journal.oldest (j : Journal) : Nat :=
  match j.entries with
  | [] => j.next
  | e :: _ => e.sequence

/-- R163: the entries reported from a list that begins with the one asked for: at most 6, all of the first one's week. -/
def reportedEntries (l : List JournalEntry) : List JournalEntry :=
  match l with
  | [] => []
  | e :: rest => (e :: rest.takeWhile (fun x => decide (x.stamp.week = e.stamp.week))).take 6

/-- R163: status and data of the reply to a Read Journal for sequence s. -/
def journalReply (j : Journal) (seq : Nat) : ReplyStatus × List Byte :=
  let d := (seq + (65536 - j.oldest % 65536)) % 65536
  if j.entries.length < d then (.noRecord, put2 j.oldest ++ put2 j.next)
  else
    let l := reportedEntries (j.entries.drop d)
    (.done, put2 seq ++ put1 l.length ++
      (match l with | [] => ones 2 | e :: _ => put2 e.stamp.week) ++ (l.map JournalEntry.bytes).flatten)

end Sys2Proof.Machine
end

