-- ==== Sys2Proof/Machine/Line.lean ====
section
/-! DEFINITION. The Line Controller: the character receiver, the frame assembler, the receive buffer, the transmit queue with its
reservations, the sender with its read-back and backoff (R139 to R150). -/

namespace Sys2Proof.Machine

/-! ### Line speed (R139) -/

/-- R139: the divisor of a line speed code. -/
def divisorOf (code : Nat) : Nat :=
  match code with
  | 0 => 23
  | 1 => 11
  | 2 => 7
  | _ => 3

/-- R139: crystal cycles of a bit time. -/
def bitCycles (divisor : Nat) : Nat := 16 * (divisor + 1)

/-- R139: crystal cycles of a character time. -/
def characterCycles (divisor : Nat) : Nat := 11 * bitCycles divisor

/-- R139: the line speed in bits per second. -/
def bitsPerSecond (divisor : Nat) : Nat := Config.crystalPerSecond / bitCycles divisor

/-! ### The transmit queue (R145, R146) -/

/-- R145, R147: a frame joins the tail. A frame that becomes the head sets the backoff to 0. -/
def enqueue (p : TxPayload) (s : State) : State :=
  { s with line := { s.line with tx := s.line.tx ++ [{ payload := p, attempts := 0 }],
                                 backoff := if s.line.tx.isEmpty then 0 else s.line.backoff } }

/-- R146: a frame offered without reservation joins the tail when the free unreserved space is 1 or more; otherwise the block that
offered it counts the refusal. -/
def offer (p : TxPayload) (refusal : Counter) (s : State) : State :=
  if 1 ≤ txSpace s then enqueue p s else bump refusal s

/-- R146: a reservation is taken. -/
def reserve (s : State) : State := { s with line := { s.line with reserved := s.line.reserved + 1 } }

/-- R146: a reservation ends, released at a withdrawal or turned into a notice at a commit. -/
def unreserve (s : State) : State := { s with line := { s.line with reserved := s.line.reserved - 1 } }

/-- R146: the reservation of a commit becomes a PUNCH notice at the tail. -/
def reservationToNotice (n : PunchNotice) (s : State) : State := enqueue (.punch n) (unreserve s)

/-- R154: a reply is offered; a reply without space is dropped and counted. -/
def offerReply (r : Reply) (s : State) : State := offer (.reply r) .replyDropped s

/-- R159: the reply of a Restart that was taken with status DONE. -/
def Reply.isRestart (r : Reply) : Bool := decide (r.kind = 0x16#8) && r.status == .done

/-- R159: the reply of the pending Restart has left the queue, so that the warm start is due. -/
def restartReplyGone (r : Reply) (s : State) : State :=
  if r.isRestart && s.restart == .pending then { s with restart := .replyLeft } else s

/-- R145, R147: the head leaves the queue and the next frame, if any, becomes the head with k of 0. -/
def popHead (s : State) : State := { s with line := { s.line with tx := s.line.tx.tail, backoff := 0 } }

/-- R149: a frame that has left the queue completed: its journal entry is SENT, or its reply reported sent. -/
def noteSent (p : TxPayload) (s : State) : State :=
  match p with
  | .punch n => markJournal n .sent s
  | .beacon => s
  | .ring _ => s
  | .reply r => restartReplyGone r s

/-- R149, R154: a frame that has left the queue was given up: its journal entry is LOST, or its reply dropped. -/
def noteGivenUp (p : TxPayload) (s : State) : State :=
  match p with
  | .punch n => markJournal n .lost s
  | .beacon => s
  | .ring _ => s
  | .reply r => restartReplyGone r (bump .replyDropped s)

/-- R150: a notice in a queue that is emptied has its entry marked LOST; other frames go with no count. -/
def noteEmptied (p : TxPayload) (s : State) : State :=
  match p with
  | .punch n => markJournal n .lost s
  | .beacon => s
  | .ring _ => s
  | .reply _ => s

/-- R150: the transmit queue is emptied at BACKUP entry or at a start. -/
def emptyTx (s : State) : State :=
  let marked := s.line.tx.foldl (fun t f => noteEmptied f.payload t) s
  { marked with line := { marked.line with tx := [], backoff := 0 } }

/-- R149: every character of the attempt was read back equal: the frame is complete. -/
def sendComplete (s : State) : State :=
  match s.line.tx with
  | [] => s
  | f :: _ => testHead (noteSent f.payload (popHead { s with line := { s.line with attempt := none } }))

/-- R149: the sixteenth attempt collided: the frame is given up. -/
def giveUp (p : TxPayload) (s : State) : State :=
  testHead (noteGivenUp p (bump .frameGiveUp (popHead s)))

/-- R148: the backoff drawn from the generator after c attempts. -/
def drawBackoff (generator : BitVec 16) (c : Nat) : Nat := generator.toNat % 2 ^ min c 6

/-- R148: the shift generator advances one step. -/
def generatorStep (g : BitVec 16) : BitVec 16 := if g.getLsbD 0 then (g >>> 1) ^^^ 0xB400#16 else g >>> 1

/-- R148: a collision ends the attempt. The frame is given up after its sixteenth attempt; otherwise a backoff is drawn. -/
def collide (s : State) : State :=
  let s1 := bump .collision { s with line := { s.line with attempt := none } }
  match s.line.tx with
  | [] => s1
  | f :: _ =>
    if f.attempts = Config.attemptMax then giveUp f.payload s1
    else { s1 with line := { s1.line with backoff := drawBackoff s.line.generator f.attempts } }

/-! ### SEND_ATTEMPT_START (R147) -/

/-- R11: the body of the station's beacon as it stands. -/
def beaconBody (s : State) : BeaconBody :=
  { roleCode := 1, zone := s.settings.zone, flags := stationFlags s, stamp := s.clock.stamp, records := s.roster.length }

/-- R147: the bytes of a frame of the queue as it is sent. -/
def TxPayload.frame (p : TxPayload) (s : State) : List Byte :=
  match p with
  | .punch n => frameBytes .punch s.settings.station 0 n.bytes
  | .beacon => frameBytes .beacon s.settings.station 0 (beaconBody s).bytes
  | .ring r => frameBytes .ring s.settings.station 0 r.bytes
  | .reply r => frameBytes .reply s.settings.station r.destination r.bytes

/-- R147: an attempt on the head may begin. -/
def mayAttempt (s : State) : Bool :=
  running s && s.line.attempt.isNone && decide (Config.idleBase + s.line.backoff ≤ s.line.idle)

/-- SEND_ATTEMPT_START (R147). -/
def sendAttemptStart (s : State) : State :=
  match s.line.tx with
  | [] => s
  | f :: rest =>
    if mayAttempt s then
      { s with line := { s.line with tx := { f with attempts := f.attempts + 1 } :: rest,
                                     attempt := some { bytes := f.payload.frame s, done := 0 } } }
    else s

/-! ### Characters (R140) -/

/-- R140: the value held by at least two of samples 7, 8 and 9. -/
def majority (c : BitCell) : Bool := (c.s7 && c.s8) || (c.s7 && c.s9) || (c.s8 && c.s9)

/-- R139, R140: the data byte of a character. -/
def characterData (c : CharCells) : Byte :=
  byteOf (flagBit 0 (majority c.d0) + flagBit 1 (majority c.d1) + flagBit 2 (majority c.d2) + flagBit 3 (majority c.d3) +
    flagBit 4 (majority c.d4) + flagBit 5 (majority c.d5) + flagBit 6 (majority c.d6) + flagBit 7 (majority c.d7))

/-- A character, or a framing error, as the receiver hands it on (R140). -/
inductive LineChar where
  | char (data : Byte) (mark : Bool)
  | framingError
  deriving DecidableEq, Repr

/-- R140: what the receiver makes of the ten bits. -/
def receiveCells (c : CharCells) : LineChar :=
  if majority c.stop then .char (characterData c) (majority c.mark) else .framingError

/-! ### Complete frames (R143, R144, R20) -/

/-- R20: a frame with the own station number as its source. -/
def duplicateHeard (s : State) : State :=
  bump .duplicateHeard { s with peers := { s.peers with duplicate := some 0 } }

/-- R144: a frame joins the receive buffer, or is lost when the buffer holds 4. -/
def bufferFrame (f : RxFrame) (s : State) : State :=
  if s.line.rx.length < Config.rxMax then { s with line := { s.line with rx := s.line.rx ++ [f] } }
  else bump .receiveOverrun s

/-- R143, tests 5 to 7: the kind and the length of a frame; a REPLY is discarded. -/
def sortFrame (bytes body : List Byte) (s : State) : State :=
  match frameKindOf (getByte bytes 0) with
  | none => bump .frameMalformed s
  | some kind =>
    if lengthPermitted kind body then
      if kind = .reply then s
      else bufferFrame { kind := kind, source := get bytes 2 1, destination := get bytes 3 1, body := body } s
    else bump .frameMalformed s

/-- R143: a complete frame is tested; own says that it completed an own attempt whose every character was read back equal. -/
def frameComplete (bytes : List Byte) (own : Bool) (s : State) : State :=
  let covered := bytes.take (bytes.length - 2)
  if own then s
  else if bytes.drop (bytes.length - 2) ≠ crcBytes covered then bump .frameBadCheck s
  else if get bytes 2 1 = s.settings.station then duplicateHeard s
  else if get bytes 3 1 ≠ 0 ∧ get bytes 3 1 ≠ s.settings.station then s
  else sortFrame bytes (covered.drop 4) s

/-- The state with the assembler replaced. -/
def setAssembly (a : Option (List Byte)) (s : State) : State := { s with line := { s.line with assembly := a } }

/-- R141: a character with mark bit 0 is added to the frame in assembly. -/
def extendFrame (bytes : List Byte) (own : Bool) (s : State) : State :=
  if bytes.length = 2 ∧ Config.bodyMax < get bytes 1 1 then bump .frameMalformed (setAssembly none s)
  else if 2 ≤ bytes.length ∧ bytes.length = get bytes 1 1 + 6 then frameComplete bytes own (setAssembly none s)
  else setAssembly (some bytes) s

/-- R141: a character is fed to the frame assembler. -/
def assemble (data : Byte) (mark own : Bool) (s : State) : State :=
  match s.line.assembly with
  | none => if mark then setAssembly (some [data]) s else s
  | some bytes =>
    if mark then bump .frameTruncated (setAssembly (some [data]) s)
    else extendFrame (bytes ++ [data]) own s

/-! ### Read-back (R148, R149) -/

/-- R148: the character equals the one the attempt sent in this character time. -/
def Attempt.matches (a : Attempt) (data : Byte) (mark : Bool) : Bool :=
  decide (a.bytes.getD a.done 0 = data) && (mark == decide (a.done = 0))

/-- R148, R149: the character was the last of the attempt. -/
def Attempt.last (a : Attempt) : Bool := decide (a.bytes.length ≤ a.done + 1)

/-- R148, R149: the read-back of a character during an own attempt. -/
def readBack (a : Attempt) (data : Byte) (mark : Bool) (s : State) : State :=
  if a.matches data mark then
    if a.last then sendComplete s else { s with line := { s.line with attempt := some { a with done := a.done + 1 } } }
  else collide s

/-- R140, R141, R148: a character is compared with the read-back and fed to the assembler. -/
def takeCharacter (data : Byte) (mark : Bool) (s : State) : State :=
  match s.line.attempt with
  | none => assemble data mark false s
  | some a => readBack a data mark (assemble data mark (a.matches data mark && a.last) s)

/-- R140, R141, R148: a framing error is counted, abandons the frame in assembly and collides an own attempt. -/
def takeFramingError (s : State) : State :=
  let s1 := bump .lineFramingError (setAssembly none s)
  match s.line.attempt with
  | none => s1
  | some _ => collide s1

/-- CHARACTER_RECEIVED (R140, R141): the ten bits after a confirmed start bit are complete. -/
def characterReceived (cells : CharCells) (s : State) : State :=
  if running s && s.line.receiving then
    let s1 := { s with line := { s.line with receiving := false, idle := 0, charSeen := true } }
    match receiveCells cells with
    | .char data mark => takeCharacter data mark s1
    | .framingError => takeFramingError s1
  else s

/-- START_BIT_CONFIRMED (R140): two of samples 7 to 9 are 0; otherwise the change is ignored. The idle count goes back to 0. -/
def startBitConfirmed (cell : BitCell) (s : State) : State :=
  if running s && !s.line.receiving && !majority cell then
    { s with line := { s.line with receiving := true, startSeen := true, idle := 0 } }
  else s

/-- R147: the idle count over a character time that ends: 0 while the line was busy in it, by a character on the line or an own
one. -/
def idleAfter (l : Line) : Nat :=
  if l.startSeen || l.charSeen || l.receiving || l.attempt.isSome then 0 else l.idle + 1

/-- CHARACTER_TIME_END (R148): the generator advances; during an own attempt a character time without a confirmed start bit is a
collision. -/
def characterTimeEnd (s : State) : State :=
  if running s then
    let s1 := { s with line := { s.line with generator := generatorStep s.line.generator, idle := idleAfter s.line,
                                             startSeen := false, charSeen := false } }
    if s.line.attempt.isSome && !s.line.startSeen then collide s1 else s1
  else s

/-! ### Stops and starts (R150) -/

/-- R150: the receiver and the sender stop at once: the attempt is cut, the frame in assembly abandoned. -/
def cutLine (s : State) : State :=
  { s with line := { s.line with assembly := none, attempt := none, receiving := false, startSeen := false,
                                 charSeen := false } }

/-- R150: the line stops: the transmit queue is emptied with its notices marked LOST, and the receive buffer is emptied. -/
def stopLine (s : State) : State :=
  let s1 := emptyTx (cutLine s)
  { s1 with line := { s1.line with rx := [] } }

/-- R150: the receiver and the sender take up the line at the start point. -/
def beginLine (s : State) : State :=
  { s with line := { s.line with idle := 0, backoff := 0, generator := BitVec.ofNat 16 s.settings.station } }

/-! ### Meanings -/

/-- CHARACTER_RECEIVED (R141). -/
def execCharacterReceived (cells : CharCells) (s : State) : Host.Outcome State Fault Refusal := .next (characterReceived cells s)

/-- SEND_ATTEMPT_START (R147). -/
def execSendAttemptStart (s : State) : Host.Outcome State Fault Refusal := .next (sendAttemptStart s)

/-- START_BIT_CONFIRMED (R140). -/
def execStartBitConfirmed (cell : BitCell) (s : State) : Host.Outcome State Fault Refusal := .next (startBitConfirmed cell s)

/-- CHARACTER_TIME_END (R148). -/
def execCharacterTimeEnd (s : State) : Host.Outcome State Fault Refusal := .next (characterTimeEnd s)

end Sys2Proof.Machine
end

