-- ==== Sys2Proof/Machine/Image.lean ====
section
/-! DEFINITION. The configuration image: its sum, the ranges of its fields in ascending order of offset, and the settings an accepted
image gives (R151, R170). -/

namespace Sys2Proof.Machine

/-- R170, check 1: the sum of bytes 0..509, modulo 65,536. -/
def imageSum (img : List Byte) : Nat := ((img.take 510).foldl (fun a b => a + b.toNat) 0) % 65536

/-- A check of a field: the index it is named by, and whether it passes. -/
abbrev FieldCheck := Nat × Bool

/-- A field of an unsigned number that lies in low..high. -/
def rangeCheck (img : List Byte) (at_ size low high : Nat) : FieldCheck :=
  (at_, decide (low ≤ get img at_ size) && decide (get img at_ size ≤ high))

/-- R151, R170: the offset of the entry of a shift code 1..12. -/
def shiftOffset (code : Nat) : Nat := 37 + 17 * (code - 1)

/-- R151, R170: the offset of the bell entry of an index 0..31. -/
def bellOffset (i : Nat) : Nat := 241 + 6 * i

/-- R85: the rounding units. -/
def roundingUnits : List Nat := [1, 5, 6, 10, 15, 30]

/-- R151, R170: the checks of a shift entry at an offset. -/
def shiftChecks (img : List Byte) (o : Nat) : List FieldCheck :=
  [rangeCheck img (o + 1) 2 0 1439, rangeCheck img (o + 3) 2 1 1440, rangeCheck img (o + 5) 1 0 60,
   rangeCheck img (o + 6) 1 0 15, rangeCheck img (o + 7) 1 0 15, rangeCheck img (o + 8) 1 0 60,
   (o + 9, roundingUnits.contains (get img (o + 9) 1)), rangeCheck img (o + 10) 1 0 120, rangeCheck img (o + 11) 2 0 1440,
   rangeCheck img (o + 13) 2 0 960, rangeCheck img (o + 15) 2 (get img (o + 13) 2) 1440]

/-- R151, R170: the checks of a bell entry at an offset; the indexes of its minute and its rush minutes are the model's (DESIGN CHOICE,
log entry 19). -/
def bellChecks (img : List Byte) (o : Nat) : List FieldCheck :=
  [rangeCheck img (o + 1) 2 0 1439, (o + 4, patternOk (getByte img (o + 4))), rangeCheck img (o + 5) 1 0 30]

/-- R151, R170: the checks of the fields before the tables. -/
def headChecks (img : List Byte) : List FieldCheck :=
  [rangeCheck img 0 1 0x31 0x31, rangeCheck img 1 1 1 55, rangeCheck img 2 1 1 8, rangeCheck img 4 1 0 3,
   rangeCheck img 5 1 0 2, rangeCheck img 6 1 0 2, rangeCheck img 7 1 0 1, rangeCheck img 8 1 0 1, rangeCheck img 9 1 0 1,
   rangeCheck img 10 1 2 64, rangeCheck img 11 1 1 30, rangeCheck img 12 1 1 30, rangeCheck img 13 1 5 250,
   rangeCheck img 14 1 0 54, (15, decide (-2047 ≤ signed2 (get img 15 2)) && decide (signed2 (get img 15 2) ≤ 2047)),
   rangeCheck img 17 2 0 1439, rangeCheck img 19 2 0 1439]

/-- R151, R170: the checks of the bell limits. -/
def limitChecks (img : List Byte) : List FieldCheck :=
  [(433, decide (get img 433 2 ≤ 1023) && decide (get img 433 2 < get img 435 2)), rangeCheck img 435 2 0 1023]

/-- R170, check 2: the checks of every field, in ascending order of offset, each with the index that BAD FIELD names. R170 gives the
index of an item in the shift table and of a bell pattern. That a rate, and the minute and the rush minutes of a bell entry, are named
by their own offsets, not by those of the rate table and the bell schedule, is the model's choice (DESIGN CHOICE, log entry 19). -/
def fieldChecks (img : List Byte) : List FieldCheck :=
  headChecks img ++ (List.range 8).map (fun i => rangeCheck img (21 + 2 * i) 2 0 50000) ++
    ((List.range 12).map (fun i => shiftChecks img (shiftOffset (i + 1)))).flatten ++
    ((List.range 32).map (fun i => bellChecks img (bellOffset i))).flatten ++ limitChecks img

/-- R170, check 2: the index of the first field out of its range. -/
def badField (img : List Byte) : Option Nat := ((fieldChecks img).find? (fun c => !c.2)).map Prod.fst

/-- R170: the outcome of the check of a completed read. -/
def checkImage (img : List Byte) : ReadOutcome :=
  if imageSum img ≠ get img 510 2 then .badSum
  else
    match badField img with
    | some i => .badField i
    | none => .accepted

/-! ### The settings of an accepted image (R151) -/

/-- R151: a shift entry at an offset; day mask bit 7 is not named and not read. -/
def getShift (img : List Byte) (o : Nat) : ShiftEntry :=
  { days := getByte img o &&& 0x7F#8, start := get img (o + 1) 2, length := get img (o + 3) 2, earlyIn := get img (o + 5) 1,
    lateGrace := get img (o + 6) 1, earlyLeave := get img (o + 7) 1, lateOut := get img (o + 8) 1, unit := get img (o + 9) 1,
    breakLength := get img (o + 10) 1, threshold := get img (o + 11) 2, limit := get img (o + 13) 2,
    limit2 := get img (o + 15) 2 }

/-- R151: a bell entry at an offset; day mask bit 7 is not named and not read. -/
def getBell (img : List Byte) (o : Nat) : BellEntry :=
  { days := getByte img o &&& 0x7F#8, minute := get img (o + 1) 2, zones := getByte img (o + 3),
    pattern := patternOf (getByte img (o + 4)), rush := get img (o + 5) 1 }

/-- R151: the gate role of a code. -/
def gateRoleOf (n : Nat) : GateRole := if n = 1 then .entryOnly else if n = 2 then .exitOnly else .both

/-- R151: the passback policy of a code. -/
def passbackOf (n : Nat) : Passback := if n = 1 then .soft else if n = 2 then .off else .hard

/-- R151: the settings of an image. -/
def settingsOf (img : List Byte) : Settings :=
  { station := get img 1 1, zone := get img 2 1, siteCode := get img 3 1, divisor := divisorOf (get img 4 1),
    gateRole := gateRoleOf (get img 5 1), passback := passbackOf (get img 6 1), degrade := decide (get img 7 1 = 1),
    confirm := decide (get img 8 1 = 1), openLow := decide (get img 9 1 = 1), q := get img 10 1, releaseTime := get img 11 1,
    rushTime := get img 12 1, holdLimit := get img 13 1, expectedPeers := get img 14 1, nightStart := get img 17 2,
    nightEnd := get img 19 2, rates := (List.range 8).map (fun i => get img (21 + 2 * i) 2),
    shifts := (List.range 12).map (fun i => getShift img (shiftOffset (i + 1))),
    bells := (List.range 32).map (fun i => getBell img (bellOffset i)), openLimit := get img 433 2, shortLimit := get img 435 2,
    idleText := slice img 437 16, sum := imageSum img }

/-- R1, R151: the trim of an image. -/
def trimOf (img : List Byte) : Int := signed2 (get img 15 2)

end Sys2Proof.Machine
end

