-- ==== Sys2Proof/Machine/Panel.lean ====
section
/-! DEFINITION. The Panel Controller: rows, the link, result and message overlays, the message table (R165 to R168). -/

namespace Sys2Proof.Machine

/-! ### Texts -/

/-- R165: a code outside 0x20..0x7E becomes a space. -/
def printable (b : Byte) : Byte := if 0x20 ≤ b.toNat ∧ b.toNat ≤ 0x7E then b else 0x20#8

/-- Codes made 16 long: padded with spaces, and cut at 16. -/
def padRow (l : List Byte) : List Byte := (l ++ spaces).take 16

/-- R165: a text as it is placed in the buffer. -/
def rowText (l : List Byte) : List Byte := (padRow l).map printable

/-- The character codes of a text. -/
def textBytes (t : String) : List Byte := t.toList.map (fun c => byteOf c.toNat)

/-- Two decimal digits. -/
def twoDigits (n : Nat) : List Byte := [byteOf (0x30 + n / 10 % 10), byteOf (0x30 + n % 10)]

/-- A minute of day as hours, a colon and minutes. -/
def timeText (m : Nat) : List Byte := twoDigits (m / 60) ++ [0x3A#8] ++ twoDigits (m % 60)

/-- R165: the name of a day. -/
def dayName (d : Nat) : String :=
  match d with
  | 0 => "MON"
  | 1 => "TUE"
  | 2 => "WED"
  | 3 => "THU"
  | 4 => "FRI"
  | 5 => "SAT"
  | _ => "SUN"

/-- R165: the clock row for a minute of week. -/
def clockRow (isSet : Bool) (minute : Nat) : List Byte :=
  if isSet then rowText (textBytes (dayName (dayOfWeek minute)) ++ [0x20#8] ++ timeText (minuteOfDay minute))
  else rowText (textBytes "--- --:--")

/-- R165: row 1 of an UNCONFIGURED station. -/
def outOfService : List Byte := rowText (textBytes "OUT OF SERVICE")

/-- R166: the name of a refusal reason on the panel. -/
def Reason.text (r : Reason) : String :=
  match r with
  | .badRead => "BAD READ"
  | .wrongSite => "SITE"
  | .gateBusy => "BUSY"
  | .waitTimeout => "TIMEOUT"
  | .noTime => "NO TIME"
  | .unknown => "UNKNOWN"
  | .barred => "BARRED"
  | .leaving => "LEAVING"
  | .passback => "PASSBACK"

/-- R166: the text of a refusal. -/
def refusalText (r : Reason) : List Byte := rowText (textBytes "REFUSED " ++ textBytes r.text)

/-- R166: the text of an admission of a punch. -/
def admissionText (d : Direction) (stamp : Stamp) : List Byte :=
  rowText ((match d with | .inward => textBytes "IN " | .outward => textBytes "OUT ") ++
    timeText (minuteOfDay stamp.minute) ++ textBytes " OK")

/-- R166: the text of a passage with no punch. -/
def passageText : List Byte := rowText (textBytes "EXIT NO TIME")

/-! ### The link (R165) -/

/-- R165: when the link is free, the first marked row, row 1 before row 2, begins its transfer and its mark is cleared. It does so at
each change of a row, so that of two texts that come to row 1 in one step (R167) the first is sent too when the link is free: the
model's choice (log entry 25). The transfer keeps the codes the row holds now, also when the row changes during it: the model's choice
(log entry 26). -/
def Panel.kick (p : Panel) : Panel :=
  match p.transfer with
  | some _ => p
  | none =>
    if p.mark1 then { p with transfer := some { row := .one, codes := p.row1 }, mark1 := false }
    else if p.mark2 then { p with transfer := some { row := .two, codes := p.row2 }, mark2 := false }
    else p

/-- R165: row 1 takes a text; it is marked when its codes change. -/
def Panel.setRow1 (p : Panel) (codes : List Byte) : Panel :=
  if p.row1 = codes then p else Panel.kick { p with row1 := codes, mark1 := true }

/-- R165: row 2 takes a text; it is marked when its codes change. -/
def Panel.setRow2 (p : Panel) (codes : List Byte) : Panel :=
  if p.row2 = codes then p else Panel.kick { p with row2 := codes, mark2 := true }

/-- R165: the bytes of the transfer in progress: the row number and the 16 codes. -/
def Transfer.bytes (t : Transfer) : List Byte :=
  (match t.row with | .one => 0x01#8 | .two => 0x02#8) :: t.codes

/-! ### Overlays (R166, R167) -/

/-- R166: an overlay opens, or replaces the one that stands, whose saved text is kept. -/
def Panel.openOverlay (p : Panel) (now duration : Nat) (text : List Byte) : Panel :=
  let saved := match p.overlay with | none => p.row1 | some o => o.saved
  Panel.setRow1 { p with overlay := some { saved := saved, timer := { start := now, duration := duration } } } text

/-- R166: a result is handed to the panel. -/
def showResult (text : List Byte) (s : State) : State :=
  if panelRuns s then { s with panel := s.panel.openOverlay s.now Config.resultOverlay text } else s

/-- R167: a delivered message is handed to the panel. -/
def showMessage (index : Nat) (s : State) : State :=
  if panelRuns s then
    { s with panel := s.panel.openOverlay s.now Config.messageOverlay (rowText (s.panel.messages.getD (index - 1) spaces)) }
  else s

/-- R165: an announcement rebuilds the clock row from the new clock value. -/
def showClock (minute : Nat) (s : State) : State :=
  if panelRuns s then { s with panel := s.panel.setRow2 (clockRow s.clock.isSet minute) } else s

/-! ### Starts (R168) -/

/-- R168: the panel stops; the overlay, the marks and the transfer go, and row 1 holds the base text. -/
def Panel.stopped (p : Panel) : Panel :=
  { p with row1 := p.base, overlay := none, mark1 := false, mark2 := false, transfer := none }

/-- R168: the panel begins afresh with a base text. -/
def Panel.afresh (p : Panel) (base row2 : List Byte) : Panel :=
  Panel.kick { p with base := base, row1 := base, row2 := row2, overlay := none, mark1 := true, mark2 := true,
                      transfer := none }

/-- R168: the panel begins afresh with the base text of the station's state. -/
def beginPanel (s : State) : State :=
  let base := if s.starts.run == .configured then rowText s.settings.idleText else outOfService
  { s with panel := s.panel.afresh base (clockRow s.clock.isSet s.clock.minute) }

/-! ### PANEL_OVERLAY_EXPIRY, PANEL_TRANSFER_COMPLETE -/

/-- PANEL_OVERLAY_EXPIRY (R166): the saved text returns to row 1. -/
def panelOverlayExpiry (s : State) : State :=
  match s.panel.overlay with
  | none => s
  | some o =>
    if panelRuns s && o.timer.due s.now then
      { s with panel := Panel.setRow1 { s.panel with overlay := none } o.saved }
    else s

/-- PANEL_TRANSFER_COMPLETE (R165): the transfer ends, and the next marked row is sent. -/
def panelTransferComplete (s : State) : State :=
  if panelRuns s && s.panel.transfer.isSome then { s with panel := Panel.kick { s.panel with transfer := none } } else s

/-- PANEL_OVERLAY_EXPIRY (R166). -/
def execPanelOverlayExpiry (s : State) : Host.Outcome State Fault Refusal := .next (panelOverlayExpiry s)

/-- PANEL_TRANSFER_COMPLETE (R165). -/
def execPanelTransferComplete (s : State) : Host.Outcome State Fault Refusal := .next (panelTransferComplete s)

end Sys2Proof.Machine
end

