-- ==== Sys2Proof/Machine/Readers.lean ====
section
/-! DEFINITION. The reader channels: the read in progress, its test, repeat suppression, the waiting queue's joining and timeout,
lamps and tones (R43 to R50, R61). -/

namespace Sys2Proof.Machine

/-! ### Lamps and tones (R61) -/

/-- R61: the tones an indication starts with. -/
def firstTone (admitted : Bool) (now : Nat) : Tone :=
  if admitted then { sounding := true, toCome := 0, timer := { start := now, duration := Config.longTone } }
  else { sounding := true, toCome := 2, timer := { start := now, duration := Config.shortTone } }

/-- R61: an indication starts on a reader, in place of the one showing and of its tones. -/
def indicate (r : Reader) (admitted : Bool) (s : State) : State :=
  s.setChannel r { s.channel r with indication := some { admitted := admitted, start := s.now },
                                    tone := some (firstTone admitted s.now) }

/-- R61: what follows a tone or a gap that ends: a gap after a tone while tones are to come, the next tone after a gap. -/
def Tone.next (t : Tone) (now : Nat) : Option Tone :=
  if t.sounding then
    if t.toCome = 0 then none
    else some { sounding := false, toCome := t.toCome, timer := { start := now, duration := Config.shortTone } }
  else some { sounding := true, toCome := t.toCome - 1, timer := { start := now, duration := Config.shortTone } }

/-! ### Suppression (R47) -/

/-- R47: an outcome enters a suppression list: any entry of the badge is removed, the new one joins the tail, and the oldest of
nine is removed. -/
def suppress (badge time : Nat) (l : List Suppressed) : List Suppressed :=
  let kept := l.filter (fun e => decide (e.badge ≠ badge)) ++ [{ badge := badge, time := time }]
  if Config.suppressionMax < kept.length then kept.tail else kept

/-- R47: an outcome for a read of a badge from a reader enters its suppression list. -/
def noteOutcome (r : Reader) (badge : Nat) (s : State) : State :=
  s.setChannel r { s.channel r with suppression := suppress badge s.now (s.channel r).suppression }

/-! ### Refusals -/

/-- R46: a refusal is journaled with the clock as its stamp, shown on the panel and indicated on the reader. -/
def refuseAtChannel (r : Reader) (badge : Option Nat) (reason : Reason) (s : State) : State :=
  indicate r false (showResult (refusalText reason)
    (writeJournal s.clock.stamp (some r) badge (.refused reason) .none none s))

/-- R49, R50, R54: a refusal of a read that reached the Punch Unit, which also enters the suppression list. -/
def refuseRead (r : Reader) (badge : Nat) (reason : Reason) (s : State) : State :=
  noteOutcome r badge (refuseAtChannel r (some badge) reason s)

/-! ### Pulses (R44) -/

/-- R44: the read a first pulse begins. -/
def freshRead (now : Nat) : ReadInProgress :=
  { bits := [], count := 0, spoiled := false, lastEnd := now, zeroStuck := false, oneStuck := false }

/-- R44: the read in progress, or the one this pulse begins. -/
def currentRead (s : State) (r : Reader) : ReadInProgress :=
  match (s.channel r).read with
  | none => freshRead s.now
  | some x => x

/-- R44: a bit is added; bits beyond the fortieth are counted and not kept, and the count is held at 255. -/
def ReadInProgress.addBit (x : ReadInProgress) (bit : Bool) (now : Nat) : ReadInProgress :=
  { x with bits := if x.bits.length < Config.readBits then x.bits ++ [bit] else x.bits,
           count := min Config.readCountMax (x.count + 1), lastEnd := now }

/-- R44: a pulse that spoils the read adds no bit. -/
def ReadInProgress.spoil (x : ReadInProgress) (now : Nat) : ReadInProgress := { x with spoiled := true, lastEnd := now }

/-- R44: the bit of a rail. -/
def railBit (rail : Rail) : Bool :=
  match rail with
  | .zero => false
  | .one => true

/-- R44, R45: a rail is asserted since 25 ms or more. -/
def ReadInProgress.stuck (x : ReadInProgress) : Bool := x.zeroStuck || x.oneStuck

/-- R44: whether a rail has been asserted for 25 ms is replaced. -/
def ReadInProgress.setStuck (x : ReadInProgress) (rail : Rail) (b : Bool) : ReadInProgress :=
  match rail with
  | .zero => { x with zeroStuck := b }
  | .one => { x with oneStuck := b }

/-- QUALIFIED_PULSE (R44): a pulse ends. The end of a stuck pulse, and a pulse that overlaps one of the other rail, a stuck one
included, add no bit and spoil the read. The channel's condition is that of the pulse's end: R43 and R44 do not say what becomes of a
pulse that began while the channel was OFF or DISABLED and ends when it is ENABLED, and that it is taken is the model's choice (DESIGN
CHOICE, log entry 16). -/
def qualifiedPulse (r : Reader) (rail : Rail) (overlaps : Bool) (s : State) : State :=
  if channelEnabled s r then
    let x := currentRead s r
    let y := if overlaps || x.stuck then x.spoil s.now else x.addBit (railBit rail) s.now
    s.setChannel r { s.channel r with read := some (y.setStuck rail false) }
  else s

/-- RAIL_STUCK (R44, R45): the read in progress, or the one the stuck pulse began, is SPOILED, and the rail is not free until the
pulse ends (QUALIFIED_PULSE). The channel's condition is that of the moment the 25 ms are reached (log entry 16). -/
def railStuck (r : Reader) (rail : Rail) (s : State) : State :=
  if channelEnabled s r then
    let x := currentRead s r
    s.setChannel r { s.channel r with read := some ({ x with spoiled := true }.setStuck rail true) }
  else s

/-! ### The badge code (R45) -/

/-- R45: the number bits spell, most significant first. -/
def bitsNat (bits : List Bool) : Nat := bits.foldl (fun a b => 2 * a + (if b then 1 else 0)) 0

/-- R45: byte i of the badge code. -/
def codeByte (bits : List Bool) (i : Nat) : Nat := bitsNat ((bits.drop (8 * i)).take 8)

/-- R45: the site code. -/
def codeSite (bits : List Bool) : Nat := codeByte bits 0

/-- R45: the badge number, most significant byte first. -/
def codeBadge (bits : List Bool) : Nat := codeByte bits 1 * 65536 + codeByte bits 2 * 256 + codeByte bits 3

/-- R45: the check byte is the bitwise inverse of the exclusive-or of the four bytes before it. -/
def codeCheckOk (bits : List Bool) : Bool :=
  decide (byteOf (codeByte bits 4) =
    ~~~(byteOf (codeByte bits 0) ^^^ byteOf (codeByte bits 1) ^^^ byteOf (codeByte bits 2) ^^^ byteOf (codeByte bits 3)))

/-- R45: the read is well formed; otherwise it is BAD READ. -/
def ReadInProgress.wellFormed (x : ReadInProgress) : Bool :=
  !x.spoiled && decide (x.count = Config.readBits) && codeCheckOk x.bits && badgeInRange (codeBadge x.bits)

/-! ### The waiting queue's joining (R48, R49) -/

/-- R48: a read is a repeat. -/
def isRepeat (s : State) (r : Reader) (badge : Nat) : Bool :=
  (s.channel r).suppression.any (fun e => decide (e.badge = badge)) ||
    s.waiting.any (fun w => w.reader == r && decide (w.badge = badge)) ||
    (match s.pendingPunch with | none => false | some p => p.reader == r && decide (p.badge = badge))

/-- R49: a read handed on joins the tail, or is refused GATE BUSY. An entry that joins an empty queue is tested (R51). -/
def joinWaiting (r : Reader) (badge : Nat) (s : State) : State :=
  if s.waiting.length < waitingCapacity s then
    let s' := { s with waiting := s.waiting ++ [{ reader := r, badge := badge, readAt := s.now, held := false }] }
    if s.waiting.isEmpty then testHead s' else s'
  else refuseRead r badge .gateBusy s

/-- R45, R46, R48: the test of a read that has ended. -/
def testRead (r : Reader) (x : ReadInProgress) (s : State) : State :=
  if !x.wellFormed then refuseAtChannel r none .badRead s
  else if codeSite x.bits ≠ s.settings.siteCode then refuseAtChannel r (some (codeBadge x.bits)) .wrongSite s
  else if isRepeat s r (codeBadge x.bits) then bump .repeatIgnored s
  else joinWaiting r (codeBadge x.bits) s

/-- R45: both rails have been free for 25 ms since the end of the last pulse (log entry 16). -/
def ReadInProgress.over (x : ReadInProgress) (now : Nat) : Bool := !x.stuck && reached now x.lastEnd Config.railQuiet

/-- READ_END (R45): the read ends and is tested. -/
def readEnd (r : Reader) (s : State) : State :=
  match (s.channel r).read with
  | none => s
  | some x =>
    if channelEnabled s r && x.over s.now then
      testRead r x (s.setChannel r { s.channel r with read := none })
    else s

/-- SUPPRESSION_EXPIRY (R47): the oldest entry is removed 4 elapsed seconds after its time. -/
def suppressionExpiry (r : Reader) (s : State) : State :=
  match (s.channel r).suppression with
  | [] => s
  | e :: rest =>
    if channelEnabled s r && reached s.now e.time Config.suppressionTime then
      s.setChannel r { s.channel r with suppression := rest }
    else s

/-! ### WAIT_TIMEOUT (R50) -/

/-- R50: the entry has waited 10 elapsed seconds. -/
def WaitEntry.timedOut (w : WaitEntry) (now : Nat) : Bool := reached now w.readAt Config.waitTime

/-- R50: the first entry that has waited its time, and the queue without it. R50 gives no order for two entries whose ten seconds are up
at the same tick: that the one nearer the head is refused first is the model's choice (log entry 27). -/
def takeTimedOut (now : Nat) : List WaitEntry → Option (WaitEntry × List WaitEntry)
  | [] => none
  | w :: rest =>
    if w.timedOut now then some (w, rest)
    else (takeTimedOut now rest).map (fun x => (x.1, w :: x.2))

/-- WAIT_TIMEOUT (R50): the entry is removed wherever it stands and refused; when it was the head, the next head is tested. -/
def waitTimeout (s : State) : State :=
  if running s then
    match takeTimedOut s.now s.waiting with
    | none => s
    | some (w, rest) =>
      let s' := refuseRead w.reader w.badge .waitTimeout { s with waiting := rest }
      if s.waiting.head? = some w then testHead s' else s'
  else s

/-! ### Indications (R61) -/

/-- INDICATION_EXPIRY (R61): the indication ends after 3 elapsed seconds. -/
def indicationExpiry (r : Reader) (s : State) : State :=
  match (s.channel r).indication with
  | none => s
  | some i =>
    if channelEnabled s r && reached s.now i.start Config.indicationTime then
      s.setChannel r { s.channel r with indication := none }
    else s

/-- TONE_END (R61): the tone line moves to its next phase. -/
def toneEnd (r : Reader) (s : State) : State :=
  match (s.channel r).tone with
  | none => s
  | some t =>
    if channelEnabled s r && t.timer.due s.now then
      s.setChannel r { s.channel r with tone := t.next s.now }
    else s

/-! ### Meanings -/

/-- QUALIFIED_PULSE (R44). -/
def execQualifiedPulse (r : Reader) (rail : Rail) (overlaps : Bool) (s : State) : Host.Outcome State Fault Refusal :=
  .next (qualifiedPulse r rail overlaps s)

/-- RAIL_STUCK (R44). -/
def execRailStuck (r : Reader) (rail : Rail) (s : State) : Host.Outcome State Fault Refusal := .next (railStuck r rail s)

/-- READ_END (R45). -/
def execReadEnd (r : Reader) (s : State) : Host.Outcome State Fault Refusal := .next (readEnd r s)

/-- SUPPRESSION_EXPIRY (R47). -/
def execSuppressionExpiry (r : Reader) (s : State) : Host.Outcome State Fault Refusal := .next (suppressionExpiry r s)

/-- WAIT_TIMEOUT (R50). -/
def execWaitTimeout (s : State) : Host.Outcome State Fault Refusal := .next (waitTimeout s)

/-- INDICATION_EXPIRY (R61). -/
def execIndicationExpiry (r : Reader) (s : State) : Host.Outcome State Fault Refusal := .next (indicationExpiry r s)

/-- TONE_END (R61). -/
def execToneEnd (r : Reader) (s : State) : Host.Outcome State Fault Refusal := .next (toneEnd r s)

end Sys2Proof.Machine
end

