-- ==== Sys2Proof/Machine/Pay.lean ====
section
/-! DEFINITION. The Pay Calculator: the choice of an occurrence, and the result and accumulator of a closed interval (R85 to R102). -/

namespace Sys2Proof.Machine

/-! ### Tables (R85, R86) -/

/-- R85: the entry of a shift code 1..12. -/
def Settings.shift (c : Settings) (code : Nat) : ShiftEntry := c.shifts.getD (code - 1) ShiftEntry.blank

/-- R86: the rate of a rate class. -/
def Settings.rate (c : Settings) (rateClass : Nat) : Nat := c.rates.getD rateClass 0

/-- R86: a minute of day lies in the night window. -/
def inNight (start stop m : Nat) : Bool :=
  if start < stop then decide (start ≤ m) && decide (m < stop)
  else if stop < start then decide (start ≤ m) || decide (m < stop)
  else false

/-! ### Minutes and the occurrence (R88 to R90) -/

/-- R88: the in-minute. -/
def inMinute (stamp : Stamp) : Nat := absAdd stamp.abs (if stamp.second = 0 then 0 else 1)

/-- R88: the out-minute. -/
def outMinute (stamp : Stamp) : Nat := absAdd stamp.abs 0

/-- R89: the distance of a candidate start from the in-minute. -/
def distance (m candidate : Nat) : Nat := (absDiff m candidate).natAbs

/-- R89: the nearer of two candidates, the second, which is the later, when they are equally near. -/
def nearer (m early late : Nat) : Nat := if distance m late ≤ distance m early then late else early

/-- R89: the occurrence start nearest to an in-minute, for a shift that starts at a minute of day. -/
def nearestStart (m start : Nat) : Nat :=
  let day := absAdd m (-(absMinuteOfDay m : Int))
  nearer m (nearer m (absAdd day ((start : Int) - Config.minutesPerDay)) (absAdd day start))
    (absAdd day ((start : Int) + Config.minutesPerDay))

/-- R90: the kind of an occurrence of a shift that starts at an absolute minute. -/
def kindOfStart (e : ShiftEntry) (start : Nat) : OccKind :=
  if e.days.getLsbD (absDayOfWeek start) then .scheduled else .offDay

/-- R89, R90: the occurrence of an own IN punch. -/
def chooseOccurrence (c : Settings) (code : Nat) (stamp : Stamp) : Occurrence :=
  if code = 0 then { code := 0, kind := .noShift, start := none }
  else
    let e := c.shift code
    let start := nearestStart (inMinute stamp) e.start
    { code := code, kind := kindOfStart e start, start := some start }

/-! ### Effective in and out (R92, R93) -/

/-- The greatest whole number of units at or below a number of minutes, in minutes. -/
def unitsDown (u : Nat) (d : Int) : Int := d / u * u

/-- The least whole number of units at or above a number of minutes, in minutes. -/
def unitsUp (u : Nat) (d : Int) : Int := -((-d) / u * u)

/-- R92: the effective in. -/
def effectiveIn (e : ShiftEntry) (kind : OccKind) (start : Option Nat) (m : Nat) : Nat :=
  match kind, start with
  | .noShift, _ => m
  | _, none => m
  | .scheduled, some s =>
    if -(e.earlyIn : Int) ≤ absDiff m s ∧ absDiff m s ≤ e.lateGrace then s
    else absAdd s (unitsUp e.unit (absDiff m s))
  | .offDay, some s => absAdd s (unitsUp e.unit (absDiff m s))

/-- R93: the effective out. -/
def effectiveOut (e : ShiftEntry) (kind : OccKind) (start : Option Nat) (m : Nat) : Nat :=
  match kind, start with
  | .noShift, _ => m
  | _, none => m
  | .scheduled, some s =>
    let z := absAdd s e.length
    if -(e.earlyLeave : Int) ≤ absDiff m z ∧ absDiff m z ≤ e.lateOut then z
    else absAdd s (unitsDown e.unit (absDiff m s))
  | .offDay, some s => absAdd s (unitsDown e.unit (absDiff m s))

/-! ### Zero results (R94) -/

/-- R94: the first of the four conditions that holds. -/
inductive ZeroCause where
  | noShift
  | negative
  | overlong
  | nullSpan
  deriving DecidableEq, Repr

/-- R94: the four conditions in their order. -/
def zeroCause (kind : OccKind) (inStamp outStamp : Stamp) (span : Int) : Option ZeroCause :=
  if kind = .noShift then some .noShift
  else if clockDiff outStamp inStamp < 0 then some .negative
  else if (Config.spanMax : Int) < absDiff (outMinute outStamp) (inMinute inStamp) then some .overlong
  else if span ≤ 0 then some .nullSpan
  else none

/-- R94, R102: the flags of a zero result. -/
def zeroFlags (kind : OccKind) (cause : ZeroCause) : ResultFlags :=
  { ResultFlags.clear with offDay := kind == .offDay, noShift := cause == .noShift, negative := cause == .negative,
                           overlong := cause == .overlong, nullSpan := cause == .nullSpan }

/-! ### Accumulator, break, bands, night, credits, pay (R95 to R100) -/

/-- R24, R95: an accumulator set afresh for an occurrence. -/
def Accumulator.fresh (start code : Nat) : Accumulator :=
  { start := start, code := code, gross := 0, regular := 0, ot1 := 0, ot2 := 0, breakState := .none, lastOut := none }

/-- R95: the accumulator brought to an occurrence. -/
def accumulatorFor (acc : Option Accumulator) (start code : Nat) : Accumulator :=
  match acc with
  | none => Accumulator.fresh start code
  | some a => if a.start = start then a else Accumulator.fresh start code

/-- R95: net before. -/
def Accumulator.net (a : Accumulator) : Nat := a.regular + a.ot1 + a.ot2

/-- R96: the break is deducted at this close. -/
def breakDue (e : ShiftEntry) (a : Accumulator) (grossAfter : Nat) : Bool :=
  a.breakState == .none && decide (0 < e.breakLength) && decide (e.threshold ≤ grossAfter)

/-- R97: the minutes of a stretch of the scale that lie between two limits. -/
def onScale (before after low high : Nat) : Nat := min after high - max before low

/-- R97: the regular limit. -/
def regularLimit (e : ShiftEntry) (kind : OccKind) : Nat := if kind = .scheduled then e.limit else 0

/-- R97: the overtime limit. -/
def overtimeLimit (e : ShiftEntry) (kind : OccKind) : Nat := if kind = .scheduled then e.limit2 else e.limit2 - e.limit

/-- R98: the night minutes of a span, counted one by one. -/
def nightMinutes (nightStart nightEnd effIn : Nat) : Nat → Nat
  | 0 => 0
  | k + 1 => nightMinutes nightStart nightEnd effIn k +
      (if inNight nightStart nightEnd (absMinuteOfDay (absAdd effIn k)) then 1 else 0)

/-- R99: the credits of minute figures. -/
def creditsOf (regular ot1 ot2 night : Nat) : Nat := 4 * regular + 6 * ot1 + 8 * ot2 + night

/-- R100: the pay of credits at a rate. -/
def payOf (credits rate : Nat) : Nat := (credits * rate + 120) / 240

/-- R95 to R100: a result that is not zero, and the accumulator after it. -/
def paidResult (c : Settings) (iv : OpenInterval) (acc : Option Accumulator) (start effIn effOut0 : Nat) (span0 : Int)
    (rate : Nat) : PayResult × Accumulator :=
  let e := c.shift iv.code
  let w := min Config.spanMax span0.toNat
  let effOut := if (Config.spanMax : Int) < span0 then absAdd effIn Config.spanMax else effOut0
  let a := accumulatorFor acc start iv.code
  let grossAfter := min Config.spanMax (a.gross + w)
  let deduct := breakDue e a grossAfter
  let taken := if deduct then min e.breakLength w else 0
  let after := a.net + (w - taken)
  let regular := onScale a.net after 0 (regularLimit e iv.kind)
  let ot1 := onScale a.net after (regularLimit e iv.kind) (overtimeLimit e iv.kind)
  let ot2 := onScale a.net after (overtimeLimit e iv.kind) after
  let night := nightMinutes c.nightStart c.nightEnd effIn w
  let credits := creditsOf regular ot1 ot2 night
  ({ key := iv.key, start := some start, effIn := effIn, effOut := effOut, regular := regular, ot1 := ot1, ot2 := ot2,
     night := night, breakMinutes := taken, credits := credits, pay := payOf credits rate,
     flags := { ResultFlags.clear with offDay := iv.kind == .offDay, breakDeducted := deduct } },
   { a with gross := grossAfter, regular := min Config.spanMax (a.regular + regular),
            ot1 := min Config.spanMax (a.ot1 + ot1), ot2 := min Config.spanMax (a.ot2 + ot2),
            breakState := if deduct then .deducted else a.breakState })

/-- R94: a zero result. -/
def zeroResult (iv : OpenInterval) (effIn effOut : Nat) (cause : ZeroCause) : PayResult :=
  { key := iv.key, start := if iv.kind = .noShift then none else iv.start, effIn := effIn, effOut := effOut, regular := 0, ot1 := 0,
    ot2 := 0, night := 0, breakMinutes := 0, credits := 0, pay := 0, flags := zeroFlags iv.kind cause }

/-- R91: the result of an interval closed by an out stamp at a rate, and the accumulator after the call. -/
def closeInterval (c : Settings) (iv : OpenInterval) (acc : Option Accumulator) (outStamp : Stamp) (rate : Nat) :
    PayResult × Option Accumulator :=
  let e := c.shift iv.code
  let effIn := effectiveIn e iv.kind iv.start (inMinute iv.key.stamp)
  let effOut := effectiveOut e iv.kind iv.start (outMinute outStamp)
  let span := absDiff effOut effIn
  match zeroCause iv.kind iv.key.stamp outStamp span, iv.start with
  | some cause, _ => (zeroResult iv effIn effOut cause, acc)
  | none, none => (zeroResult iv effIn effOut .noShift, acc)
  | none, some start =>
    let p := paidResult c iv acc start effIn effOut span rate
    (p.1, some p.2)

end Sys2Proof.Machine
end

