-- ==== Sys2Proof/Machine/Weeks.lean ====
section
/-! DEFINITION. Week slots: crediting a result, Week Collected and the week changes of one record (R107 to R116). -/

namespace Sys2Proof.Machine

/-- R108: the greatest value of a minute field. -/
def minutesMax : Nat := 65535
/-- R108: the greatest value of credits. -/
def creditsMax : Nat := 16777215
/-- R108: the greatest value of pay. -/
def payMax : Nat := 4294967295
/-- R108: the greatest value of intervals credited. -/
def intervalsMax : Nat := 255

/-- R108: a sum exceeds its field's maximum at the crediting of a result. -/
def overflows (w : WeekSlot) (r : PayResult) : Bool :=
  decide (minutesMax < w.regular + r.regular) || decide (minutesMax < w.ot1 + r.ot1) || decide (minutesMax < w.ot2 + r.ot2) ||
    decide (minutesMax < w.night + r.night) || decide (creditsMax < w.credits + r.credits) || decide (payMax < w.pay + r.pay) ||
    decide (intervalsMax < w.intervals + 1)

/-- R108: a result is credited to a slot. -/
def WeekSlot.credit (w : WeekSlot) (r : PayResult) : WeekSlot :=
  { w with regular := min minutesMax (w.regular + r.regular), ot1 := min minutesMax (w.ot1 + r.ot1),
           ot2 := min minutesMax (w.ot2 + r.ot2), night := min minutesMax (w.night + r.night),
           credits := min creditsMax (w.credits + r.credits), pay := min payMax (w.pay + r.pay),
           intervals := min intervalsMax (w.intervals + 1), saturated := w.saturated || overflows w r }

/-- Where a result went (R109, R110). -/
inductive CreditPlace where
  | current
  | previous
  /-- a PREVIOUS slot whose COLLECTED was set and is cleared -/
  | previousCollected
  | stale
  deriving DecidableEq, Repr

/-- R109: the slot a result goes to. -/
def creditPlace (x : Record) (r : PayResult) : CreditPlace :=
  if x.current.tag = r.key.stamp.week then .current
  else if x.previous.tag = r.key.stamp.week then (if x.previous.collected then .previousCollected else .previous)
  else .stale

/-- R108 to R110: a result is credited to a record's slots. -/
def creditSlots (x : Record) (r : PayResult) : Record :=
  match creditPlace x r with
  | .current => { x with current := x.current.credit r }
  | .previous => { x with previous := x.previous.credit r }
  | .previousCollected => { x with previous := { x.previous.credit r with collected := false } }
  | .stale => x

/-- R35: a key is inserted at the head of a credited-key list; the fourth is dropped. -/
def insertKey (k : PunchKey) (l : List PunchKey) : List PunchKey := (k :: l).take Config.creditedMax

/-! ### Week changes (R111 to R113) -/

/-- R112, R113: the record's slots move on one place: CURRENT, keeping its tag, becomes PREVIOUS with COLLECTED clear, and a new
empty CURRENT is tagged with the new week. Both kinds of week change do the same to the slots. -/
def moveSlots (w : Nat) (x : Record) : Record :=
  { x with previous := { x.current with collected := false }, current := WeekSlot.emptyWith w }

/-- R112, R113: the discarded PREVIOUS had intervals credited above 0 and COLLECTED clear. -/
def discardCounts (x : Record) : Bool := decide (0 < x.previous.intervals) && !x.previous.collected

/-- R111: a week change to week w, for one record. -/
def changeWeek (w : Nat) (x : Record) : Record := if x.current.tag = w then x else moveSlots w x

/-- R111: a week change counts a record's discarded PREVIOUS. -/
def changeCounts (w : Nat) (x : Record) : Bool := decide (x.current.tag ≠ w) && discardCounts x

/-! ### Week Collected (R116) -/

/-- R116: the record's PREVIOUS slot matches a week. -/
def collects (w : Nat) (x : Record) : Bool := decide (x.previous.tag = w)

/-- R116: COLLECTED is set on a PREVIOUS slot that matches. -/
def markCollected (w : Nat) (x : Record) : Record :=
  if collects w x then { x with previous := { x.previous with collected := true } } else x

end Sys2Proof.Machine
end

