-- ==== Sys2Proof/Machine/Roster.lean ====
section
/-! DEFINITION. The Badge Roster: the collection, the office changes to a record, heard PUNCH notices and own commits (R22 to R41,
R104 to R106), week changes over the whole roster, and the replies to Read Record and Read Totals (R117 to R119). -/

namespace Sys2Proof.Machine

/-! ### The collection (R22) -/

/-- R22: the record of a badge. -/
def findRecord (badge : Nat) (roster : List Record) : Option Record := roster.find? (fun x => decide (x.badge = badge))

/-- R22: the record of a badge in the station's roster. -/
def State.record (s : State) (badge : Nat) : Option Record := findRecord badge s.roster

/-- The roster with the record of a badge replaced. -/
def putRecord (x : Record) (roster : List Record) : List Record :=
  roster.map (fun y => if y.badge = x.badge then x else y)

/-- R22, R26: the roster with a new record at the place that keeps the ascending order. -/
def insertRecord (x : Record) : List Record → List Record
  | [] => [x]
  | y :: rest => if x.badge < y.badge then x :: y :: rest else y :: insertRecord x rest

/-- R22: the roster without the record of a badge. -/
def removeRecord (badge : Nat) (roster : List Record) : List Record := roster.filter (fun x => decide (x.badge ≠ badge))

/-- R38: a LEAVING record with presence OUT is removed once a punch has been handled; any other record is put back. -/
def settleRecord (x : Record) (roster : List Record) : List Record :=
  if x.status = .leaving ∧ x.presence = .isOut then removeRecord x.badge roster else putRecord x roster

/-! ### Office changes (R26 to R30) -/

/-- R26: the week before a week. -/
def weekBefore (w : Nat) : Nat := (w + (Config.weekCount - 1)) % Config.weekCount

/-- R26: the record an Enrol inserts. -/
def newRecord (badge code rateClass week : Nat) : Record :=
  { badge := badge, status := .active, shiftCode := code, rateClass := rateClass, presence := .isOut, lastPunch := none,
    interval := none, acc := none, credited := [], message := none, current := WeekSlot.emptyWith week,
    previous := WeekSlot.emptyWith (weekBefore week) }

/-- R26, R27: an Enrol; addressed says whether it is answered. -/
def enrolRecord (badge code rateClass : Nat) (addressed : Bool) (s : State) : State × ReplyStatus :=
  match s.record badge with
  | some x => ({ s with roster := putRecord { x with shiftCode := code, rateClass := rateClass } s.roster }, .done)
  | none =>
    if s.roster.length < Config.rosterMax then
      ({ s with roster := insertRecord (newRecord badge code rateClass s.clock.week) s.roster }, .done)
    else (bumpIf (!addressed) .enrolDropped s, .full)

/-- R29: a Bar. -/
def barRecord (badge : Nat) (s : State) : State × ReplyStatus :=
  match s.record badge with
  | none => (s, .noRecord)
  | some x =>
    match x.status with
    | .active => ({ s with roster := putRecord { x with status := .barred } s.roster }, .done)
    | .barred => (s, .done)
    | .leaving => (s, .wrongState)

/-- R29: an Unbar. -/
def unbarRecord (badge : Nat) (s : State) : State × ReplyStatus :=
  match s.record badge with
  | none => (s, .noRecord)
  | some x =>
    match x.status with
    | .barred => ({ s with roster := putRecord { x with status := .active } s.roster }, .done)
    | .active => (s, .done)
    | .leaving => (s, .wrongState)

/-- R28: a Withdraw. -/
def withdrawRecord (badge : Nat) (s : State) : State × ReplyStatus :=
  match s.record badge with
  | none => (s, .noRecord)
  | some x =>
    match x.presence with
    | .isOut => ({ s with roster := removeRecord badge s.roster }, .done)
    | .isIn => ({ s with roster := putRecord { x with status := .leaving } s.roster }, .done)

/-- R30: a Flag with a message index 0..8. -/
def flagRecord (badge index : Nat) (s : State) : State × ReplyStatus :=
  match s.record badge with
  | none => (s, .noRecord)
  | some x =>
    ({ s with roster := putRecord { x with message := if index = 0 then none else some index } s.roster }, .done)

/-- R116: Week Collected. -/
def collectWeek (week : Nat) (s : State) : State × ReplyStatus :=
  ({ s with roster := s.roster.map (markCollected week) }, if s.roster.any (collects week) then .done else .noRecord)

/-- R111: a week change reaches the roster. -/
def rosterWeekChange (week : Nat) (s : State) : State :=
  addCount .uncollectedOverwritten (s.roster.countP (changeCounts week)) { s with roster := s.roster.map (changeWeek week) }

/-! ### Opening an interval (R24) -/

/-- R24, step 5: the resumption of an occurrence is tested for a break. -/
def resumed (e : ShiftEntry) (a : Accumulator) (inStamp : Stamp) : Accumulator :=
  match a.lastOut with
  | none => a
  | some out =>
    if a.breakState = .none ∧ 0 < e.breakLength ∧ (e.breakLength : Int) * 60 ≤ clockDiff inStamp out then
      { a with breakState := .taken }
    else a

/-- R24, steps 3 to 5: the accumulator at the opening of an interval. -/
def accumulatorAtOpen (c : Settings) (acc : Option Accumulator) (inStamp : Stamp) (o : Occurrence) : Option Accumulator :=
  match o.kind, o.start with
  | .noShift, _ => acc
  | _, none => acc
  | _, some start =>
    match acc with
    | none => some (Accumulator.fresh start o.code)
    | some a =>
      if a.start = start then some (resumed (c.shift o.code) a inStamp) else some (Accumulator.fresh start o.code)

/-- R24: an interval is opened in a record. -/
def openInterval (c : Settings) (key : PunchKey) (o : Occurrence) (x : Record) : Record :=
  { x with
    current := { x.current with abandonedSeen := x.current.abandonedSeen || x.interval.isSome }
    interval := some { key := key, code := o.code, kind := o.kind, start := o.start }
    presence := .isIn
    acc := accumulatorAtOpen c x.acc key.stamp o }

/-! ### Crediting (R25, R36, R40) -/

/-- R25: the span of a heard result. -/
def heardSpan (r : PayResult) : Int := if r.flags.zero then 0 else absDiff r.effOut r.effIn

/-- R25: gross minutes after a heard result. A sum below 0 has no stated value: it is a free value within the field's range. -/
def grossPlus (gross : Nat) (span : Int) : Nat :=
  let t := (gross : Int) + span
  if t < 0 then min Config.spanMax (Config.grossBelowZero t) else min Config.spanMax t.toNat

/-- R25: a heard result is added to the accumulator. -/
def addHeard (acc : Option Accumulator) (r : PayResult) (stamp : Stamp) : Option Accumulator :=
  match acc, r.start with
  | some a, some start =>
    if start = a.start then
      some { a with gross := grossPlus a.gross (heardSpan r), regular := min Config.spanMax (a.regular + r.regular),
                    ot1 := min Config.spanMax (a.ot1 + r.ot1), ot2 := min Config.spanMax (a.ot2 + r.ot2),
                    breakState := if r.flags.breakDeducted then .deducted else a.breakState,
                    lastOut := latestStamp a.lastOut stamp }
    else some a
  | acc, _ => acc

/-- R36: a heard result that is not in the list is credited to a record. -/
def creditHeard (r : PayResult) (stamp : Stamp) (x : Record) : Record :=
  { creditSlots x r with acc := addHeard x.acc r stamp, credited := insertKey r.key x.credited }

/-- R109, R110: the counters of a result's crediting. -/
def countPlace (p : CreditPlace) (s : State) : State :=
  match p with
  | .current => s
  | .previous => s
  | .previousCollected => bump .collectedCredited s
  | .stale => bump .resultStale s

/-! ### Heard PUNCH notices (R31 to R38, R106) -/

/-- R31: an OCCURRENCE part is well formed. -/
def Occurrence.valid (o : Occurrence) : Bool :=
  match o.kind, o.start with
  | .noShift, none => decide (o.code = 0)
  | .noShift, some _ => false
  | _, none => false
  | _, some start => decide (1 ≤ o.code) && decide (o.code ≤ 12) && absInRange start

/-- R106: a RESULT part passes. -/
def PayResult.valid (r : PayResult) : Bool :=
  r.key.stamp.inRange && decide (1 ≤ r.key.station) && decide (r.key.station ≤ 55) &&
    decide (r.regular ≤ Config.spanMax) && decide (r.ot1 ≤ Config.spanMax) && decide (r.ot2 ≤ Config.spanMax) &&
    decide (r.night ≤ Config.spanMax) && decide (r.breakMinutes ≤ 120) && decide (r.credits ≤ 25920) &&
    decide (r.pay ≤ 5400000) && decide (r.flags.zeroCount ≤ 1) && (r.start.isSome == !r.flags.noShift) &&
    (match r.start with | none => true | some a => absInRange a) && absInRange r.effIn && absInRange r.effOut

/-- R31, R106: a heard notice from a source passes the checks. -/
def PunchNotice.valid (n : PunchNotice) (source : Nat) : Bool :=
  decide (1 ≤ source) && decide (source ≤ 55) && badgeInRange n.badge && n.stamp.inRange &&
    (match n.direction with
     | .inward => n.occurrence.isSome && n.result.isNone
     | .outward => n.occurrence.isNone && n.superseded.isNone) &&
    (match n.occurrence with | none => true | some o => o.valid) &&
    (match n.result with | none => true | some r => r.valid)

/-- R32: a notice is applied as current to a record. -/
def isCurrent (x : Record) (key : PunchKey) : Bool :=
  match x.lastPunch with
  | none => true
  | some l => key.laterThan l.key

/-- R33, R34: a current notice's effect on presence, interval and last punch. -/
def applyCurrent (c : Settings) (n : PunchNotice) (key : PunchKey) (x : Record) : Record :=
  match n.direction, n.occurrence with
  | .inward, some o => { openInterval c key o x with lastPunch := some { key := key, direction := .inward } }
  | .inward, none => x
  | .outward, _ => { x with presence := .isOut, interval := none, lastPunch := some { key := key, direction := .outward } }

/-- R37: the flags of a heard notice. -/
def applyFlags (n : PunchNotice) (x : Record) : Record :=
  { x with current := { x.current with unpairedSeen :=
                          x.current.unpairedSeen || (n.direction == .outward && n.flags.unpaired) }
           message := if n.flags.delivered then none else x.message }

/-- R32, R33: a current IN notice over an open interval abandons it. -/
def heardAbandons (x : Record) (n : PunchNotice) (key : PunchKey) : Bool :=
  isCurrent x key && n.direction == .inward && n.occurrence.isSome && x.interval.isSome

/-- R36: the RESULT part of a heard notice, for a record that R32 to R34 have handled. -/
def heardResult (n : PunchNotice) (x : Record) : Record :=
  match n.result with
  | none => x
  | some r => if r.key ∈ x.credited then x else creditHeard r n.stamp x

/-- R36: the counters of the RESULT part of a heard notice. -/
def countHeardResult (n : PunchNotice) (x : Record) (s : State) : State :=
  match n.result with
  | none => s
  | some r => if r.key ∈ x.credited then bump .resultDuplicate s else countPlace (creditPlace x r) s

/-- R32 to R34: the record after a notice is applied as current, or left by a LATE one. -/
def heardPassage (c : Settings) (n : PunchNotice) (key : PunchKey) (x : Record) : Record :=
  if isCurrent x key then applyCurrent c n key x else x

/-- R32 to R37: a record after a heard notice. -/
def heardRecord (c : Settings) (n : PunchNotice) (source : Nat) (x : Record) : Record :=
  applyFlags n (heardResult n (heardPassage c n { stamp := n.stamp, station := source } x))

/-- R31 to R38: a notice that passed the checks is handled. -/
def hearNotice (n : PunchNotice) (source : Nat) (s : State) : State :=
  match s.record n.badge with
  | none => bump .punchUnknownBadge s
  | some x =>
    let key : PunchKey := { stamp := n.stamp, station := source }
    let s1 := bumpIf (!isCurrent x key) .punchLate (bumpIf (heardAbandons x n key) .intervalAbandoned s)
    let s2 := countHeardResult n (heardPassage s.settings n key x) s1
    { s2 with roster := settleRecord (heardRecord s.settings n source x) s.roster }

/-- R31, R106: a PUNCH body from a source is checked and handled. -/
def hearPunchBody (body : List Byte) (source : Nat) (s : State) : State :=
  match getPunch body with
  | none => bump .punchInvalid s
  | some n => if n.valid source then hearNotice n source s else bump .punchInvalid s

/-- HEAR_PUNCH (R31): the roster takes a PUNCH notice from the head of the receive buffer. -/
def hearPunch (s : State) : State :=
  match s.line.rx with
  | [] => s
  | f :: rest =>
    if running s && f.kind == .punch then
      hearPunchBody f.body f.source { s with line := { s.line with rx := rest } }
    else s

/-- HEAR_PUNCH (R31). -/
def execHearPunch (s : State) : Host.Outcome State Fault Refusal := .next (hearPunch s)

/-! ### Own commits (R39 to R41, R104, R105) -/

/-- What the roster hands back to the Punch Unit at a commit (R39 to R41, R58). -/
structure CommitInfo where
  occurrence : Option Occurrence
  superseded : Option PunchKey
  result     : Option PayResult
  crossed    : Bool
  message    : Option Nat
  deriving DecidableEq, Repr

/-- R41: the last punch after an own commit. -/
def ownLastPunch (x : Record) (key : PunchKey) (d : Direction) : Option LastPunch :=
  if isCurrent x key then some { key := key, direction := d } else x.lastPunch

/-- R40, step 3: the last out stamp of the accumulator, when its start equals the interval's. -/
def touchLastOut (acc : Option Accumulator) (iv : OpenInterval) (stamp : Stamp) : Option Accumulator :=
  match acc with
  | none => none
  | some a => if iv.start = some a.start then some { a with lastOut := latestStamp a.lastOut stamp } else some a

/-- R40: the close of an interval by an own OUT punch: the record after steps 1 to 4, and the result as it goes out (R105). -/
def closeOwn (c : Settings) (iv : OpenInterval) (stamp : Stamp) (x : Record) : Record × PayResult :=
  let closed := closeInterval c iv x.acc stamp (c.rate x.rateClass)
  let r := closed.1
  if iv.key ∈ x.credited then
    ({ x with acc := touchLastOut x.acc iv stamp, presence := .isOut, interval := none }, r)
  else
    ({ creditSlots x r with credited := insertKey iv.key x.credited, acc := touchLastOut closed.2 iv stamp,
                            presence := .isOut, interval := none },
     { r with flags := { r.flags with stale := creditPlace x r == .stale } })

/-- R40: the counters of the close of an interval by an own OUT punch. -/
def countOwnClose (c : Settings) (iv : OpenInterval) (stamp : Stamp) (x : Record) (s : State) : State :=
  if iv.key ∈ x.credited then bump .resultDuplicate s
  else countPlace (creditPlace x (closeInterval c iv x.acc stamp (c.rate x.rateClass)).1) s

/-- R39, R40: message delivery and UNPAIRED SEEN, and R41: the last punch. -/
def finishOwn (before : Record) (key : PunchKey) (d : Direction) (unpaired : Bool) (x : Record) : Record :=
  { x with message := none, lastPunch := ownLastPunch before key d,
           current := { x.current with unpairedSeen := x.current.unpairedSeen || unpaired } }

/-- R39 to R41: the roster applies an own punch at its commit. -/
def commitRoster (p : PendingPunch) (stamp : Stamp) (s : State) : State × CommitInfo :=
  let d := readerDirection p.reader
  match s.record p.badge with
  | none =>
    (bump .orphanCommit s,
     { occurrence := if d = .inward then some { code := 0, kind := .noShift, start := none } else none,
       superseded := none, result := none, crossed := false, message := none })
  | some x =>
    let key : PunchKey := { stamp := stamp, station := s.settings.station }
    let crossed := p.presence != some x.presence
    match d with
    | .inward =>
      let o := chooseOccurrence s.settings x.shiftCode stamp
      let y := finishOwn x key .inward false (openInterval s.settings key o x)
      ({ bumpIf x.interval.isSome .intervalAbandoned s with roster := settleRecord y s.roster },
       { occurrence := some o, superseded := x.interval.map OpenInterval.key, result := none, crossed := crossed,
         message := x.message })
    | .outward =>
      match x.interval with
      | none =>
        let y := finishOwn x key .outward p.unpaired { x with presence := .isOut }
        ({ s with roster := settleRecord y s.roster },
         { occurrence := none, superseded := none, result := none, crossed := crossed, message := x.message })
      | some iv =>
        let closed := closeOwn s.settings iv stamp x
        let y := finishOwn x key .outward p.unpaired closed.1
        ({ countOwnClose s.settings iv stamp x s with roster := settleRecord y s.roster },
         { occurrence := none, superseded := none, result := some closed.2, crossed := crossed, message := x.message })

/-! ### Read Record (R119, R156) -/

/-- R156: the number of a record's status. -/
def RecordStatus.code (x : RecordStatus) : Nat :=
  match x with
  | .active => 0
  | .barred => 1
  | .leaving => 2

/-- R156: the number of a presence. -/
def Presence.code (p : Presence) : Nat :=
  match p with
  | .isOut => 0
  | .isIn => 1

/-- R151, R156: the number of a direction. -/
def Direction.code (d : Direction) : Nat :=
  match d with
  | .inward => 0
  | .outward => 1

/-- R156: the number of a break state. -/
def BreakState.code (b : BreakState) : Nat :=
  match b with
  | .none => 0
  | .deducted => 1
  | .taken => 2

/-- R156: bytes 7–13. -/
def lastPunchBytes (l : Option LastPunch) : List Byte :=
  match l with
  | none => ones 7
  | some l => l.key.bytes ++ put1 l.direction.code

/-- R156: bytes 14–25. -/
def intervalBytes (i : Option OpenInterval) : List Byte :=
  match i with
  | none => ones 12
  | some i => i.key.bytes ++ put1 i.code ++ put1 i.kind.code ++ putOptAbs i.start

/-- R156: bytes 26–44. -/
def accumulatorBytes (a : Option Accumulator) : List Byte :=
  match a with
  | none => ones 19
  | some a =>
    put4 a.start ++ put1 a.code ++ put2 a.gross ++ put2 a.regular ++ put2 a.ot1 ++ put2 a.ot2 ++ put1 a.breakState.code ++
      (match a.lastOut with | none => ones 5 | some o => putStamp o)

/-- R156: the 46 bytes of a Read Record reply. -/
def Record.bytes (x : Record) : List Byte :=
  put3 x.badge ++ put1 x.status.code ++ put1 x.shiftCode ++ put1 x.rateClass ++ put1 x.presence.code ++
    lastPunchBytes x.lastPunch ++ intervalBytes x.interval ++ accumulatorBytes x.acc ++
    (match x.message with | none => ones 1 | some m => put1 m)

/-- R119: status and data of a Read Record. -/
def recordReply (roster : List Record) (badge : Nat) : ReplyStatus × List Byte :=
  match findRecord badge roster with
  | none => (.noRecord, [])
  | some x => (.done, x.bytes)

/-! ### Read Totals (R117, R118, R156) -/

/-- R117: the slot a request selects. -/
def Record.slot (x : Record) (previous : Bool) : WeekSlot := if previous then x.previous else x.current

/-- R117: the records reported from those at or above the starting badge: at most 4, all of the first one's tag. -/
def reportedRecords (previous : Bool) (l : List Record) : List Record :=
  match l with
  | [] => []
  | x :: rest => (x :: rest.takeWhile (fun y => decide ((y.slot previous).tag = (x.slot previous).tag))).take 4

/-- R156: the flags of the records reported, four bits each from bit 0. -/
def totalsFlags (previous : Bool) : List Record → Nat
  | [] => 0
  | x :: rest =>
    (x.slot previous).nibble (previous && (x.slot previous).collected) + 16 * totalsFlags previous rest

/-- R156: the 11 bytes of a record. -/
def totalsRecord (previous minutes : Bool) (x : Record) : List Byte :=
  let w := x.slot previous
  if minutes then put3 x.badge ++ put2 w.regular ++ put2 w.ot1 ++ put2 w.ot2 ++ put2 w.night
  else put3 x.badge ++ put3 w.credits ++ put4 w.pay ++ put1 w.intervals

/-- R117, R156: the data of a Read Totals reply. -/
def totalsReply (roster : List Record) (previous minutes : Bool) (start : Nat) : List Byte :=
  let from_ := roster.filter (fun x => decide (start ≤ x.badge))
  let l := reportedRecords previous from_
  let next := match from_.drop l.length with | [] => 0 | x :: _ => x.badge
  put1 (flagBit 0 previous + flagBit 1 minutes + 16 * l.length) ++
    (match l with | [] => ones 2 | x :: _ => put2 (x.slot previous).tag) ++
    put3 next ++ put2 (totalsFlags previous l) ++ (l.map (totalsRecord previous minutes)).flatten

end Sys2Proof.Machine
end

