-- ==== Sys2Proof/Machine/Punch.lean ====
section
/-! DEFINITION. The pending punch: its commit, the confirmation of a passage with no punch, and its withdrawal (R56 to R60). -/

namespace Sys2Proof.Machine

/-- R58: the outcome of the journal entry of a commit. -/
def admittedOutcome (d : Direction) : JournalOutcome :=
  match d with
  | .inward => .admittedIn
  | .outward => .admittedOut

/-- R59: the flags of a punch as they stand at its commit. -/
def commitFlags (p : PendingPunch) (i : CommitInfo) : PunchFlags :=
  { softPassback := p.softPassback, unpaired := p.unpaired, crossed := i.crossed, delivered := i.message.isSome }

/-- R59: the PUNCH notice of a commit, with the sequence of its journal entry. -/
def commitNotice (p : PendingPunch) (stamp : Stamp) (i : CommitInfo) (sequence : Nat) : PunchNotice :=
  { sequence := sequence, badge := p.badge, direction := readerDirection p.reader, flags := commitFlags p i, stamp := stamp,
    occurrence := i.occurrence, superseded := i.superseded, result := i.result }

/-- R58, step 3: a delivered message is handed to the panel. -/
def deliverMessage (m : Option Nat) (s : State) : State :=
  match m with
  | none => s
  | some index => showMessage index s

/-- R58: the commit of a pending punch of kind PUNCH with its punch stamp, steps 1 to 5 in order. -/
def commitPunch (p : PendingPunch) (stamp : Stamp) (s : State) : State :=
  let r := commitRoster p stamp s
  let n := commitNotice p stamp r.2 r.1.journal.next
  let s1 := writeJournal stamp (some p.reader) (some p.badge) (admittedOutcome n.direction) .queued (some n.flags) r.1
  let s2 := reservationToNotice n (deliverMessage r.2.message s1)
  { s2 with pendingPunch := none }

/-- R56: the confirmation of a passage with no punch. -/
def confirmNoPunch (p : PendingPunch) (s : State) : State :=
  { writeJournal s.clock.stamp (some p.reader) (some p.badge) .passageNoPunch .none none s with pendingPunch := none }

/-- R58, R56: the Release Controller reports the passage of the pending punch, if any. A pending PUNCH always holds its stamp
(R57). -/
def reportPassage (s : State) : State :=
  match s.pendingPunch with
  | none => s
  | some p =>
    match p.kind, p.stamp with
    | .punch, some stamp => commitPunch p stamp s
    | .punch, none => s
    | .passage, _ => confirmNoPunch p s

/-- R60: the pending punch, if any, is withdrawn: the reservation of a PUNCH is released, WITHDRAWN is journaled. -/
def withdrawPending (s : State) : State :=
  match s.pendingPunch with
  | none => s
  | some p =>
    let s1 := match p.kind with
      | .punch => unreserve s
      | .passage => s
    { writeJournal s.clock.stamp (some p.reader) (some p.badge) .withdrawn .none none s1 with pendingPunch := none }

end Sys2Proof.Machine
end

