-- ==== Sys2Proof/Machine/Gate.lean ====
section
/-! DEFINITION. The Release Controller: input qualification, the release cycle and its two timers (R64 to R84). -/

namespace Sys2Proof.Machine

/-! ### Input qualification (R64 to R66, R84) -/

/-- R66: a sample of an input that has no accepted level yet: Q equal samples running give it one, and no event. -/
def Input.establish (i : Input) (q : Nat) (level : Bool) : Input :=
  let count := if i.sample = some level then i.count + 1 else 1
  if q ≤ count then { i with accepted := some level, sample := none, count := 0 }
  else { i with sample := some level, count := count }

/-- R64: a sample of an input with an accepted level; latches says which changes latch an event, and early whether the controller
is still OFF (R66). -/
def Input.qualify (i : Input) (q : Nat) (level accepted latches early : Bool) : Input :=
  if level = accepted then { i with count := 0 }
  else if q ≤ i.count + 1 then
    { i with accepted := some level, count := 0,
             latched := if latches then i.latched ++ [{ level := level, early := early }] else i.latched }
  else { i with count := i.count + 1 }

/-- R64, R66: one sample of an input. -/
def Input.sampled (i : Input) (q : Nat) (level latches early : Bool) : Input :=
  match i.accepted with
  | none => i.establish q level
  | some a => i.qualify q level a latches early

/-- R65: the door's level by its polarity: true is open. -/
def doorOpenLevel (openLow high : Bool) : Bool := openLow != high

/-- R64, R65: the samples of a configured station. The door contact is in use only with the confirm-passage option set. -/
def Gate.sampleConfigured (g : Gate) (c : Settings) (pins : Pins) : Gate :=
  let early := g.cycle == .off
  { g with
    door := if c.confirm then g.door.sampled c.q (doorOpenLevel c.openLow pins.door) true early else g.door
    button := g.button.sampled c.q pins.button pins.button early
    freePassage := g.freePassage.sampled c.q pins.freePassage true early }

/-- R84: the sample of an UNCONFIGURED station: the free-passage input alone, with 16 samples. -/
def Gate.sampleUnconfigured (g : Gate) (pins : Pins) : Gate :=
  { g with freePassage := g.freePassage.sampled Config.unconfiguredQ pins.freePassage true false }

/-- R64: inputs are sampled every 2 elapsed milliseconds from the moment their sampling began. -/
def sampleMoment (s : State) : Bool :=
  match s.gate.sampleFrom with
  | none => false
  | some t => decide (elapsedSince s.now t % 2 = 0)

/-- R64, R84: the inputs in use are sampled at a millisecond tick. -/
def sampleInputs (pins : Pins) (s : State) : State :=
  if sampleMoment s then
    if running s then { s with gate := s.gate.sampleConfigured s.settings pins }
    else if unconfiguredMain s then { s with gate := s.gate.sampleUnconfigured pins }
    else s
  else s

/-- R64: the oldest event latched for an input, when it is a change to a level: the input without it, and its mark. -/
def Input.take (i : Input) (level : Bool) : Option (Input × Bool) :=
  match i.latched with
  | [] => none
  | e :: rest => if e.level = level then some ({ i with latched := rest }, e.early) else none

/-! ### Entering states (R67, R68) -/

/-- The cycle enters a state in which no timer runs. -/
def enterCycle (c : Cycle) (s : State) : State :=
  { s with gate := { s.gate with cycle := c, releaseTimer := none, holdTimer := none } }

/-- R67: the cycle enters IDLE or FREE, and the Punch Unit tests its queue. -/
def enterDeciding (c : Cycle) (s : State) : State := testHead (enterCycle c s)

/-- R68: the release time in milliseconds, by the rush window as it stands. -/
def releaseDuration (s : State) : Nat :=
  1000 * (if s.rushOpen then s.settings.rushTime else s.settings.releaseTime)

/-- R68: the hold limit in milliseconds. -/
def holdDuration (s : State) : Nat := 1000 * s.settings.holdLimit

/-- R68, R69: the cycle enters RELEASED and the release timer starts. -/
def enterReleased (s : State) : State :=
  { s with gate := { s.gate with cycle := .released, releaseTimer := some { start := s.now, duration := releaseDuration s },
                                 holdTimer := none } }

/-- R68, R73: the cycle enters PASSING and the hold timer starts. -/
def enterPassing (s : State) : State :=
  { s with gate := { s.gate with cycle := .passing, releaseTimer := none,
                                 holdTimer := some { start := s.now, duration := holdDuration s } } }

/-! ### INPUTS_ESTABLISHED (R66) -/

/-- R66: every input in use has an accepted level. -/
def established (s : State) : Bool :=
  (!s.settings.confirm || s.gate.door.accepted.isSome) && s.gate.button.accepted.isSome &&
    s.gate.freePassage.accepted.isSome

/-- R67: the accepted door level is open; without a door contact there is none. -/
def doorOpen (s : State) : Bool := s.settings.confirm && s.gate.door.accepted == some true

/-- R65: the free-passage input's accepted level is asserted. -/
def freePassageOn (s : State) : Bool := s.gate.freePassage.accepted == some true

/-- INPUTS_ESTABLISHED (R66): the controller leaves OFF. -/
def inputsEstablished (s : State) : State :=
  if running s && s.gate.cycle == .off && established s then
    if freePassageOn s then enterDeciding .free s
    else if doorOpen s then writeGateEntry .heldOpen (enterCycle .heldOpen s)
    else enterDeciding .idle s
  else s

/-! ### The door (R72, R73, R75, R77, R78, R80) -/

/-- R72, R73, R80: a door opening taken in a state of the cycle. -/
def takeDoorOpens (s : State) : State :=
  match s.gate.cycle with
  | .idle => writeGateEntry .forced (enterCycle .forced s)
  | .released => reportPassage (enterPassing s)
  | .off => s
  | .passing => s
  | .heldOpen => s
  | .forced => s
  | .free => s

/-- R75, R77, R78, R80: a door closing taken in a state of the cycle. -/
def takeDoorCloses (s : State) : State :=
  match s.gate.cycle with
  | .passing => enterDeciding .idle s
  | .heldOpen => enterDeciding .idle s
  | .forced => enterDeciding .idle s
  | .off => s
  | .idle => s
  | .released => s
  | .free => s

/-- R64, R66: the oldest latched door event is taken; one latched before the controller left OFF is discarded. -/
def takeDoor (level : Bool) (effect : State → State) (s : State) : State :=
  if running s then
    match s.gate.door.take level with
    | none => s
    | some (i, early) =>
      let s1 := { s with gate := { s.gate with door := i } }
      if early then s1 else effect s1
  else s

/-- DOOR_OPENS (R72, R73). -/
def doorOpens (s : State) : State := takeDoor true takeDoorOpens s

/-- DOOR_CLOSES (R75, R77, R78). -/
def doorCloses (s : State) : State := takeDoor false takeDoorCloses s

/-! ### Exit button and Remote Release (R70, R71, R81) -/

/-- R70, R71: a release without a punch. -/
def releaseGate (outcome : JournalOutcome) (s : State) : State := writeGateEntry outcome (enterReleased s)

/-- R70: a press taken: it releases the gate in IDLE and is ignored in every other state. -/
def takePress (s : State) : State := if s.gate.cycle = .idle then releaseGate .exitButton s else s

/-- EXIT_BUTTON_PRESS (R70). -/
def exitButtonPress (s : State) : State :=
  if running s then
    match s.gate.button.take true with
    | none => s
    | some (i, early) =>
      let s1 := { s with gate := { s.gate with button := i } }
      if early then s1 else takePress s1
  else s

/-- R71: a Remote Release handed on by the Request Handler. -/
def remoteReleaseGate (s : State) : State × ReplyStatus :=
  if s.gate.cycle = .idle then (releaseGate .remoteRelease s, .done) else (s, .wrongState)

/-! ### Timers (R74, R76, R81) -/

/-- RELEASE_TIMER_EXPIRY (R74, R81): the pending punch, if any, is withdrawn, and the cycle becomes IDLE. -/
def releaseTimerExpiry (s : State) : State :=
  if running s && s.gate.cycle == .released && timerDue s.gate.releaseTimer s.now then
    enterDeciding .idle (withdrawPending s)
  else s

/-- HOLD_TIMER_EXPIRY (R76): HELD OPEN, or the timer starts again while the rush window is open. -/
def holdTimerExpiry (s : State) : State :=
  if running s && s.gate.cycle == .passing && timerDue s.gate.holdTimer s.now then
    if s.rushOpen then enterPassing s else writeGateEntry .heldOpen (enterCycle .heldOpen s)
  else s

/-! ### Free passage (R79, R80, R84) -/

/-- R79: an assertion taken by a configured station. -/
def takeAsserted (s : State) : State :=
  match s.gate.cycle with
  | .released => testHead (reportPassage (enterCycle .free s))
  | .idle => enterDeciding .free s
  | .passing => enterDeciding .free s
  | .heldOpen => enterDeciding .free s
  | .forced => enterDeciding .free s
  | .off => s
  | .free => s

/-- R80: a release taken by a configured station. -/
def takeReleased (s : State) : State :=
  if s.gate.cycle = .free then (if doorOpen s then enterPassing s else enterDeciding .idle s) else s

/-- R84: an UNCONFIGURED station takes the cycle between OFF and FREE by the free-passage input. -/
def unconfiguredCycle (asserted : Bool) (s : State) : State := enterCycle (if asserted then .free else .off) s

/-- FREE_PASSAGE_ASSERTED (R79, R84): a latched assertion is taken; while UNCONFIGURED an asserted level that is the first
accepted takes the cycle to FREE without an event. -/
def freePassageAsserted (s : State) : State :=
  match s.gate.freePassage.take true with
  | some (i, early) =>
    let s1 := { s with gate := { s.gate with freePassage := i } }
    if running s then (if early then s1 else takeAsserted s1)
    else if unconfiguredMain s then unconfiguredCycle true s1
    else s
  | none =>
    if unconfiguredMain s && s.gate.freePassage.latched.isEmpty && freePassageOn s then unconfiguredCycle true s else s

/-- FREE_PASSAGE_RELEASED (R80, R84). -/
def freePassageReleased (s : State) : State :=
  match s.gate.freePassage.take false with
  | some (i, early) =>
    let s1 := { s with gate := { s.gate with freePassage := i } }
    if running s then (if early then s1 else takeReleased s1)
    else if unconfiguredMain s then unconfiguredCycle false s1
    else s
  | none => s

/-! ### Starts and BACKUP (R66, R82 to R84) -/

/-- R82, R83: the cycle becomes OFF, the timers stop, and the inputs are discarded. -/
def stopGate (s : State) : State := { s with gate := Gate.initial }

/-- R66, R84: sampling of the inputs begins. -/
def beginSampling (s : State) : State := { s with gate := { Gate.initial with sampleFrom := some s.now } }

/-! ### Meanings -/

/-- INPUTS_ESTABLISHED (R66). -/
def execInputsEstablished (s : State) : Host.Outcome State Fault Refusal := .next (inputsEstablished s)

/-- DOOR_OPENS (R73). -/
def execDoorOpens (s : State) : Host.Outcome State Fault Refusal := .next (doorOpens s)

/-- DOOR_CLOSES (R75). -/
def execDoorCloses (s : State) : Host.Outcome State Fault Refusal := .next (doorCloses s)

/-- EXIT_BUTTON_PRESS (R70). -/
def execExitButtonPress (s : State) : Host.Outcome State Fault Refusal := .next (exitButtonPress s)

/-- FREE_PASSAGE_ASSERTED (R79). -/
def execFreePassageAsserted (s : State) : Host.Outcome State Fault Refusal := .next (freePassageAsserted s)

/-- FREE_PASSAGE_RELEASED (R80). -/
def execFreePassageReleased (s : State) : Host.Outcome State Fault Refusal := .next (freePassageReleased s)

/-- RELEASE_TIMER_EXPIRY (R74). -/
def execReleaseTimerExpiry (s : State) : Host.Outcome State Fault Refusal := .next (releaseTimerExpiry s)

/-- HOLD_TIMER_EXPIRY (R76). -/
def execHoldTimerExpiry (s : State) : Host.Outcome State Fault Refusal := .next (holdTimerExpiry s)

end Sys2Proof.Machine
end

