-- ==== Sys2Proof/Machine/Decide.lean ====
section
/-! DEFINITION. DECIDE_HEAD: the effective passback policy, the decision of the waiting queue's head, and admissions (R51 to R57,
R69, R80, R81). -/

namespace Sys2Proof.Machine

/-- R52: the effective passback policy. -/
def effectivePolicy (freeOn : Bool) (policy : Passback) (degrade isolatedNow : Bool) : Passback :=
  if freeOn then .off
  else
    match policy with
    | .hard => if degrade && isolatedNow then .soft else .hard
    | .soft => .soft
    | .off => .off

/-- The outcome of a decision (R53). -/
inductive Decision where
  | refuse (reason : Reason)
  | admission (softPassback unpaired : Bool) (presence : Presence)
  | passage
  deriving DecidableEq, Repr

/-- R53, steps 3 to 5, for a badge with a record. -/
def decideRecord (policy : Passback) (d : Direction) (x : Record) : Decision :=
  match d, x.status, x.presence with
  | .inward, .barred, _ => .refuse .barred
  | .inward, .leaving, _ => .refuse .leaving
  | .inward, .active, .isIn =>
    match policy with
    | .hard => .refuse .passback
    | .soft => .admission true false .isIn
    | .off => .admission false false .isIn
  | .inward, .active, .isOut => .admission false false .isOut
  | .outward, _, .isIn => .admission false false .isIn
  | .outward, _, .isOut => .admission false true .isOut

/-- R53: the decision of a read, by the first step that applies. -/
def decide_ (clockSet : Bool) (policy : Passback) (d : Direction) (x : Option Record) : Decision :=
  if clockSet then
    match x with
    | none => .refuse .unknown
    | some x => decideRecord policy d x
  else
    match d with
    | .inward => .refuse .noTime
    | .outward => .passage

/-- R52: the policy in force. -/
def policyNow (s : State) : Passback :=
  effectivePolicy (freePassageOn s) s.settings.passback s.settings.degrade (isolated s)

/-- R53: the decision of an entry as the station stands. -/
def decisionOf (s : State) (w : WaitEntry) : Decision :=
  decide_ s.clock.isSet (policyNow s) (readerDirection w.reader) (s.record w.badge)

/-- R69, R80, R81: an admission is handed to the Release Controller: RELEASED from IDLE, FREE stays FREE, and the passage is
reported at once in FREE and without a door contact. -/
def startRelease (s : State) : State :=
  if s.gate.cycle = .free then reportPassage s
  else if s.settings.confirm then enterReleased s
  else reportPassage (enterReleased s)

/-- R55: the pending punch of an admission. -/
def pendingOf (w : WaitEntry) (stamp : Stamp) (soft unpaired : Bool) (presence : Presence) : PendingPunch :=
  { kind := .punch, reader := w.reader, badge := w.badge, stamp := some stamp, softPassback := soft, unpaired := unpaired,
    presence := some presence }

/-- R56: the pending punch of a passage with no punch. -/
def passageOf (w : WaitEntry) : PendingPunch :=
  { kind := .passage, reader := w.reader, badge := w.badge, stamp := none, softPassback := false, unpaired := false,
    presence := none }

/-- R55: an admission of a punch, steps 1 to 5 in order. -/
def admitPunch (w : WaitEntry) (soft unpaired : Bool) (presence : Presence) (s : State) : State :=
  let stamp := s.clock.stamp
  let s1 := { reserve s with pendingPunch := some (pendingOf w stamp soft unpaired presence) }
  startRelease (showResult (admissionText (readerDirection w.reader) stamp) (indicate w.reader true s1))

/-- R56: an admission as a passage with no punch. -/
def admitPassage (w : WaitEntry) (s : State) : State :=
  startRelease (showResult passageText (indicate w.reader true { s with pendingPunch := some (passageOf w) }))

/-- R53 to R56: a decision takes effect; its outcome enters the reader's suppression list (R47). -/
def applyDecision (d : Decision) (w : WaitEntry) (s : State) : State :=
  match d with
  | .refuse reason => refuseRead w.reader w.badge reason s
  | .admission soft unpaired presence => noteOutcome w.reader w.badge (admitPunch w soft unpaired presence s)
  | .passage => noteOutcome w.reader w.badge (admitPassage w s)

/-- R51: the head may be decided. -/
def mayDecide (s : State) : Bool := running s && s.gate.cycle.decides && decide (1 ≤ txSpace s)

/-- DECIDE_HEAD (R51, R53): the head leaves the queue at its decision and the next head is tested; a head without transmit space is
held. -/
def decideHead (s : State) : State :=
  match s.waiting with
  | [] => s
  | w :: rest =>
    if mayDecide s then testHead (applyDecision (decisionOf s w) w { s with waiting := rest })
    else testHead s

/-- DECIDE_HEAD (R53). -/
def execDecideHead (s : State) : Host.Outcome State Fault Refusal := .next (decideHead s)

end Sys2Proof.Machine
end

