-- ==== Sys2Proof/Machine/Bell.lean ====
section
/-! DEFINITION. The Bell Controller: firing of schedule entries, RING notices, the ring queue and the sounder, the current monitor
and the Bell Test, and the rush window (R120 to R138). -/

namespace Sys2Proof.Machine

/-! ### Schedule and marks (R120, R121) -/

/-- R120: the entry at an index. -/
def Settings.bell (c : Settings) (i : Nat) : BellEntry := c.bells.getD i BellEntry.blank

/-- R120: an entry applies on a day of week in a zone 1..8. -/
def BellEntry.applies (e : BellEntry) (day zone : Nat) : Bool :=
  e.days.getLsbD day && decide (1 ≤ zone) && e.zones.getLsbD (zone - 1)

/-- R120: the entry at an index applies on the clock day as it stands. -/
def appliesToday (s : State) (i : Nat) : Bool :=
  (s.settings.bell i).applies (dayOfWeek s.clock.minute) s.settings.zone

/-- R120: the time of the entry at an index on the clock day of a clock value, as a stamp. -/
def entryStampOn (c : Stamp) (s : State) (i : Nat) : Stamp :=
  { week := c.week, minute := dayOfWeek c.minute * Config.minutesPerDay + (s.settings.bell i).minute, second := 0 }

/-- R120: the time of the entry at an index on the clock day as it stands, as a stamp. -/
def entryStamp (s : State) (i : Nat) : Stamp := entryStampOn s.clock.stamp s i

/-- R120: the absolute minute of that time. -/
def entryMinute (s : State) (i : Nat) : Nat := (entryStamp s i).abs

/-- R121: the mark of an index. -/
def marked (s : State) (i : Nat) : Bool := s.bell.marks.toList.getD i false

/-- R121: a mark is set. -/
def setMark (i : Nat) (s : State) : State :=
  { s with bell := { s.bell with marks := s.bell.marks.setIfInBounds i true } }

/-- R121: every mark is cleared. -/
def clearMarks (s : State) : State := { s with bell := { s.bell with marks := Vector.replicate 32 false } }

/-- R121: the marks are cleared when a new clock day begins. -/
def newDay (dayChanged : Bool) (s : State) : State := if dayChanged then clearMarks s else s

/-! ### Rush window (R136, R137) -/

/-- R5: the later of two absolute minutes. -/
def laterMinute (a b : Nat) : Nat := if absDiff a b < 0 then b else a

/-- R136: the rush window is opened with an end, unless the clock is at or past it; an open window is extended. -/
def openRush (end_ : Nat) (s : State) : State :=
  if 0 ≤ absDiff s.clock.abs end_ then s
  else { s with bell := { s.bell with rush := some (match s.bell.rush with | none => end_ | some old => laterMinute old end_) } }

/-- R137: the rush window closes. -/
def closeRush (s : State) : State := { s with bell := { s.bell with rush := none } }

/-- R137: the rush window closes at an announcement whose new absolute minute is at or after its end, or that a Set Clock step
causes. -/
def rushAtAnnouncement (new : Nat) (bySetClock : Bool) (s : State) : State :=
  match s.bell.rush with
  | none => s
  | some end_ => if bySetClock || decide (0 ≤ absDiff new end_) then closeRush s else s

/-! ### The sounder (R129, R130) -/

/-- R130: the strokes of a pattern. -/
def Pattern.strokes (p : Pattern) : Nat :=
  match p with
  | .long => 1
  | .double => 2
  | .triple => 3
  | .continuous _ => 1

/-- R130: the length of a stroke in milliseconds. -/
def Pattern.strokeLength (p : Pattern) : Nat :=
  match p with
  | .long => Config.longStroke
  | .double => Config.oneSecond
  | .triple => Config.oneSecond
  | .continuous n => 1000 * n

/-- R130, R132: a stroke begins: the monitor's figures are 0. -/
def Bell.strike (b : Bell) (now duration : Nat) (current : Sounding) : Bell :=
  { b with sounder := .striking, current := some current, timer := some { start := now, duration := duration }, sum := 0,
           number := 0, aboveRun := 0, highest := 0 }

/-- R130: a ring begins with its first stroke. -/
def Bell.beginRing (b : Bell) (now : Nat) (r : Ring) : Bell :=
  b.strike now r.pattern.strokeLength (.ring r (r.pattern.strokes - 1))

/-- R129, R130: a QUIET sounder takes the rings of the queue: with the bell READY the head begins; with a faulted bell each ring
leaves the queue as it is reached. -/
def startRings (s : State) : State :=
  if s.bell.sounder = .quiet then
    match s.bell.queue with
    | [] => s
    | r :: rest =>
      if s.bell.state = .ready then { s with bell := Bell.beginRing { s.bell with queue := rest } s.now r }
      else addCount .bellSkipped (rest.length + 1) { s with bell := { s.bell with queue := [] } }
  else s

/-- R129: a ring joins a queue that has room; a QUIET sounder takes it at once. -/
def ringJoin (r : Ring) (s : State) : State :=
  startRings { s with bell := { s.bell with queue := s.bell.queue ++ [r] } }

/-- R129: the ring queue is full. -/
def ringsFull (s : State) : Bool := decide (Config.ringMax ≤ s.bell.queue.length)

/-- R129: the present ring or test ends, and the sounder enters PAUSE for 1 second. -/
def Bell.pauseNow (b : Bell) (now : Nat) : Bell :=
  { b with sounder := .pause, current := none, timer := some { start := now, duration := Config.oneSecond } }

/-- R130: the gap before the next stroke of a ring. -/
def Bell.gapNow (b : Bell) (now : Nat) : Bell :=
  { b with sounder := .gap, timer := some { start := now, duration := Config.oneSecond } }

/-! ### Firing (R122 to R126) -/

/-- R127: the RING notice of an entry fired at an announcement with a clock value. -/
def ringNotice (c : Stamp) (s : State) (i : Nat) : RingNotice :=
  { zone := s.settings.zone, index := i, week := c.week, day := dayOfWeek c.minute,
    minute := (s.settings.bell i).minute, pattern := (s.settings.bell i).pattern }

/-- R123, step 2: the ring of a fired entry. -/
def fireRing (i : Nat) (s : State) : State :=
  if s.bell.state = .ready then
    if ringsFull s then bump .ringDropped s
    else ringJoin { pattern := (s.settings.bell i).pattern, origin := .scheduled } s
  else bump .bellSkipped s

/-- R123, step 3: the RING notice of an own firing. -/
def fireNotice (c : Stamp) (i : Nat) (own : Bool) (s : State) : State :=
  if own then offer (.ring (ringNotice c s i)) .ringNoticeSkipped s else s

/-- R123, step 4: the rush window of a SHIFT CHANGE entry. -/
def fireRush (c : Stamp) (i : Nat) (s : State) : State :=
  if 0 < (s.settings.bell i).rush then openRush (absAdd (entryStampOn c s i).abs (s.settings.bell i).rush) s else s

/-- R123: an entry fires on the clock day of a clock value; own says that the firing is the station's own and not a following. -/
def fireEntry (c : Stamp) (i : Nat) (own : Bool) (s : State) : State :=
  fireRush c i (fireNotice c i own (fireRing i (setMark i s)))

/-- R124, R126: an entry is passed without a ring. -/
def missEntry (i : Nat) (s : State) : State := bump .entryMissed (setMark i s)

/-- R122, R126: an entry due at an announcement with a clock value, its mark clear, fires, or is marked and counted where the
station is not configured in main power (log entry 11: or the reset pin is held). -/
def dueEntry (c : Stamp) (s : State) (i : Nat) : State := if running s then fireEntry c i true s else missEntry i s

/-- R122: the entries due at an announcement with a new minute: they apply today, have that minute of day, and their mark is
clear; in ascending index order. None is due while CLOCK SET is false. -/
def dueEntries (s : State) (minute : Nat) : List Nat :=
  if s.clock.isSet then
    (List.range 32).filter (fun i =>
      (s.settings.bell i).applies (dayOfWeek minute) s.settings.zone && decide ((s.settings.bell i).minute = minuteOfDay minute) &&
        !marked s i)
  else []

/-- R122: the entries due at an announcement with a clock value fire in their order. -/
def fireDue (c : Stamp) (s : State) : State := (dueEntries s c.minute).foldl (dueEntry c) s

/-- R7: the clock value of an ADVANCE announcement. -/
def Advance.stamp (a : Advance) : Stamp := { week := a.week, minute := a.minute, second := 0 }

/-- R7, R121, R122, R137: the Bell Controller takes an ADVANCE announcement. -/
def bellAdvance (a : Advance) (s : State) : State :=
  fireDue a.stamp (rushAtAnnouncement a.stamp.abs false (newDay a.dayChanged s))

/-- R124: an entry's place in the order of late firing: by time, and for one time by index. -/
def insertByMinute (s : State) (i : Nat) : List Nat → List Nat
  | [] => [i]
  | j :: rest =>
    if (s.settings.bell i).minute < (s.settings.bell j).minute then i :: j :: rest else j :: insertByMinute s i rest

/-- R124: the entries of a forward step from an absolute minute: they apply on the new clock day, their mark is clear, and their
time lies after the old minute and at or before the new one. -/
def passedEntries (s : State) (old : Nat) : List Nat :=
  ((List.range 32).filter (fun i =>
      appliesToday s i && !marked s i && decide (0 < absDiff (entryMinute s i) old) &&
        decide (absDiff (entryMinute s i) old ≤ absDiff s.clock.abs old))).foldl (fun l i => insertByMinute s i l) []

/-- R124, R126: an entry of a passed span fires late when its time lies at most 120 seconds before the new clock value, and is
marked and counted otherwise. -/
def passedEntry (s : State) (i : Nat) : State :=
  if decide (clockDiff s.clock.stamp (entryStamp s i) ≤ Config.lateSeconds) && running s then fireEntry s.clock.stamp i true s
  else missEntry i s

/-- R124: the entries of the passed span are taken in their order. None falls due while CLOCK SET is false (R122). -/
def firePassed (old : Nat) (s : State) : State :=
  if s.clock.isSet then (passedEntries s old).foldl passedEntry s else s

/-- R8, R121, R124, R125, R137: the Bell Controller takes a STEP announcement. The clock stands at the new value; old is the
absolute minute before the step. -/
def bellStep (old : Nat) (cause : StepCause) (direction : StepDirection) (dayChanged : Bool) (s : State) : State :=
  let s1 := rushAtAnnouncement s.clock.abs (cause == .setClock) (newDay dayChanged s)
  match direction with
  | .forward => firePassed old s1
  | .backward => fireDue s1.clock.stamp s1
  | .initial => fireDue s1.clock.stamp s1

/-! ### HEAR_RING (R128) -/

/-- R128: the checks of a RING body from a source. -/
def ringValid (body : List Byte) (source : Nat) : Bool :=
  let r := getRing body
  decide (1 ≤ source) && decide (source ≤ 55) && decide (1 ≤ r.zone) && decide (r.zone ≤ 8) && decide (r.index ≤ 31) &&
    decide (r.day ≤ 6) && decide (r.minute < Config.minutesPerDay) && ringPatternOk (getByte body 7)

/-- R128: the table of conditions, tested in its order. -/
def takeRing (r : RingNotice) (s : State) : State :=
  let d := clockDiff s.clock.stamp (entryStamp s r.index)
  if r.zone ≠ s.settings.zone then s
  else if s.clock.isSet = false ∨ r.week ≠ s.clock.week ∨ r.day ≠ dayOfWeek s.clock.minute then bump .ringIgnored s
  else if appliesToday s r.index = false ∨ r.minute ≠ (s.settings.bell r.index).minute then bump .scheduleMismatch s
  else if marked s r.index then s
  else if d < -Config.lateSeconds then bump .ringIgnored s
  else if Config.lateSeconds < d then bump .ringIgnored s
  else fireEntry s.clock.stamp r.index false s

/-- HEAR_RING (R128): the Bell Controller takes a RING notice from the head of the receive buffer. -/
def hearRing (s : State) : State :=
  match s.line.rx with
  | [] => s
  | f :: rest =>
    if running s && f.kind == .ring then
      let s1 := { s with line := { s.line with rx := rest } }
      if ringValid f.body f.source then takeRing (getRing f.body) s1 else bump .ringInvalid s1
    else s

/-! ### The current monitor (R132, R133) -/

/-- R132: samples are taken from 50 ms after the stroke begins until it ends, and none after the cut is due. -/
def senseMoment (s : State) : Bool :=
  match s.bell.timer with
  | none => false
  | some t =>
    running s && s.bell.sounder == .striking && decide (s.bell.aboveRun < Config.shortRun) &&
      decide (Config.inrush ≤ elapsedSince s.now t.start) && decide (elapsedSince s.now t.start < t.duration)

/-- R132, R135: a sample of the sense input: sum, number, the run above the short limit, and the highest sample. -/
def Bell.sample (b : Bell) (shortLimit v : Nat) : Bell :=
  { b with sum := b.sum + v, number := b.number + 1, aboveRun := if shortLimit < v then b.aboveRun + 1 else 0,
           highest := max b.highest v }

/-- R132: the sense input is sampled at a millisecond tick. -/
def senseBell (pins : Pins) (s : State) : State :=
  if senseMoment s then { s with bell := s.bell.sample s.settings.shortLimit pins.sense.toNat } else s

/-- R133: the mean of a stroke, the remainder dropped. A stroke without samples has no stated mean: it is a free value. -/
def strokeMean (s : State) : Nat :=
  if s.bell.number = 0 then Config.meanOfNoSamples s.now else s.bell.sum / s.bell.number

/-- R135, R155: the reply of a Bell Test: outcome, mean, highest sample. -/
def testReply (destination : Nat) (tag : Byte) (outcome mean highest : Nat) : Reply :=
  { destination := destination, kind := 0x11#8, tag := tag, status := .done,
    data := put1 outcome ++ put2 mean ++ put2 highest }

/-- The sounder enters PAUSE with a bell state. -/
def pauseWith (b : BellState) (s : State) : State := { s with bell := { s.bell.pauseNow s.now with state := b } }

/-- R133, R135: a stroke that ran its length passes. -/
def strokePassed (mean : Nat) (s : State) : State :=
  match s.bell.current with
  | none => pauseWith s.bell.state s
  | some (.test dst tag) => offerReply (testReply dst tag 0 mean s.bell.highest) (pauseWith .ready s)
  | some (.ring _ 0) => pauseWith s.bell.state s
  | some (.ring _ (_ + 1)) => { s with bell := s.bell.gapNow s.now }

/-- R133, R135: a stroke that ran its length fails. -/
def strokeFailed (mean : Nat) (s : State) : State :=
  let s1 := bump .openStroke (pauseWith .faultedOpen s)
  match s.bell.current with
  | some (.test dst tag) => offerReply (testReply dst tag 2 mean s.bell.highest) s1
  | some (.ring _ _) => s1
  | none => s1

/-- STROKE_END (R133): a stroke that was not cut runs to its end and is judged by its mean. -/
def strokeEnd (s : State) : State :=
  if running s && s.bell.sounder == .striking && timerDue s.bell.timer s.now && decide (s.bell.aboveRun < Config.shortRun) then
    if s.settings.openLimit ≤ strokeMean s then strokePassed (strokeMean s) s else strokeFailed (strokeMean s) s
  else s

/-- STROKE_SHORT_CUT (R132): three consecutive samples above the short limit cut the stroke. -/
def strokeShortCut (s : State) : State :=
  if running s && s.bell.sounder == .striking && decide (Config.shortRun ≤ s.bell.aboveRun) then
    match s.bell.current with
    | some (.test dst tag) => offerReply (testReply dst tag 1 0 s.bell.highest) (pauseWith .faultedShort s)
    | some (.ring _ _) => pauseWith .faultedShort s
    | none => pauseWith .faultedShort s
  else s

/-- GAP_END (R130): the next stroke of the ring begins. -/
def gapEnd (s : State) : State :=
  if running s && s.bell.sounder == .gap && timerDue s.bell.timer s.now then
    match s.bell.current with
    | some (.ring r (k + 1)) => { s with bell := s.bell.strike s.now r.pattern.strokeLength (.ring r k) }
    | some (.ring _ 0) => pauseWith s.bell.state s
    | some (.test _ _) => pauseWith s.bell.state s
    | none => pauseWith s.bell.state s
  else s

/-- PAUSE_END (R129): the sounder returns to QUIET and takes the next ring. -/
def pauseEnd (s : State) : State :=
  if running s && s.bell.sounder == .pause && timerDue s.bell.timer s.now then
    startRings { s with bell := { s.bell with sounder := .quiet, timer := none } }
  else s

/-! ### Ring Now and Bell Test (R131, R135) -/

/-- R131: a Ring Now; addressed says whether it is answered. -/
def ringNowRing (p : Pattern) (addressed : Bool) (s : State) : State × ReplyStatus :=
  if ringsFull s then (bumpIf (!addressed) .ringDropped s, .wrongState)
  else (ringJoin { pattern := p, origin := .ringNow } s, .done)

/-- R135: a Bell Test is taken when the sounder is QUIET; none when it is refused. -/
def beginTest (destination : Nat) (tag : Byte) (s : State) : Option State :=
  if s.bell.sounder = .quiet then
    some { s with bell := s.bell.strike s.now Config.oneSecond (.test destination tag) }
  else none

/-! ### Starts and BACKUP (R138) -/

/-- R138: rings, the sounder and a Bell Test in flight are discarded; marks, bell state and rush window stay. -/
def silenceBell (s : State) : State :=
  { s with bell := { s.bell with queue := [], sounder := .quiet, current := none, timer := none, sum := 0, number := 0,
                                 aboveRun := 0, highest := 0 } }

/-- R138: at a start the rush window is closed too. -/
def bellAtStart (s : State) : State := closeRush (silenceBell s)

/-! ### Meanings -/

/-- HEAR_RING (R128). -/
def execHearRing (s : State) : Host.Outcome State Fault Refusal := .next (hearRing s)

/-- STROKE_END (R133). -/
def execStrokeEnd (s : State) : Host.Outcome State Fault Refusal := .next (strokeEnd s)

/-- STROKE_SHORT_CUT (R132). -/
def execStrokeShortCut (s : State) : Host.Outcome State Fault Refusal := .next (strokeShortCut s)

/-- GAP_END (R130). -/
def execGapEnd (s : State) : Host.Outcome State Fault Refusal := .next (gapEnd s)

/-- PAUSE_END (R129). -/
def execPauseEnd (s : State) : Host.Outcome State Fault Refusal := .next (pauseEnd s)

end Sys2Proof.Machine
end

