-- ==== Sys2Proof/Machine/SiteClock.lean ====
section
/-! DEFINITION. The timebase's ticks, the counting of the site clock, its announcements and its steps (R1 to R4, R7 to R9, R15). -/

namespace Sys2Proof.Machine

/-! ### Announcements (R7 to R9) -/

/-- R7, R9: an ADVANCE announcement is taken by the roster, the Bell Controller and, while it runs, the panel. -/
def takeAdvance (a : Advance) (s : State) : State :=
  showClock a.minute (bellAdvance a (if a.weekChanged then rosterWeekChange a.week s else s))

/-- R9: every announcement that fell due is handed on, in the order it fell due. -/
def handAnnouncements (s : State) : State :=
  s.announcements.foldl (fun t a => takeAdvance a t) { s with announcements := [] }

/-- ADVANCE (R7, R9): the oldest announcement that fell due is handed on; during a configuration read it is held. -/
def advance (s : State) : State :=
  match s.announcements with
  | [] => s
  | a :: rest => if powered s && !announcementsHeld s then takeAdvance a { s with announcements := rest } else s

/-! ### Counting (R3) -/

/-- R3: the second of a clock carries into the minute of week, and that into the week number. -/
def Clock.carry (c : Clock) : Clock :=
  if c.minute + 1 < Config.minutesPerWeek then { c with minute := c.minute + 1, second := 0, subMs := 0 }
  else { c with week := (c.week + 1) % Config.weekCount, minute := 0, second := 0, subMs := 0 }

/-- R3: a millisecond tick advances the sub-second count, which carries into the second. -/
def Clock.tick (c : Clock) : Clock :=
  if c.subMs + 1 < 1000 then { c with subMs := c.subMs + 1 }
  else if c.second + 1 < 60 then { c with second := c.second + 1, subMs := 0 }
  else c.carry

/-- R7: this tick carries the second from 59 to 0. -/
def Clock.carries (c : Clock) : Bool := !decide (c.subMs + 1 < 1000) && !decide (c.second + 1 < 60)

/-- R7: the announcement of a carry, from the clock it leaves. -/
def advanceOf (c : Clock) : Advance :=
  { week := c.week, minute := c.minute, dayChanged := decide (c.minute % Config.minutesPerDay = 0),
    weekChanged := decide (c.minute = 0) }

/-- R3, R7: the site clock counts one millisecond; a carry's announcement falls due. -/
def countClock (s : State) : State :=
  { s with clock := s.clock.tick
           announcements := if s.clock.carries then s.announcements ++ [advanceOf s.clock.tick] else s.announcements }

/-! ### MILLISECOND_TICK (R1 to R3) -/

/-- R1, R2: the elapsed base and the place in the trimmed second advance; at a second boundary the trim in use takes effect and a
one-second tick falls due. -/
def Timebase.tick (t : Timebase) : Timebase :=
  let elapsed := (t.elapsed + 1) % Config.elapsedModulus
  if t.msInSecond + 1 < 1000 then { t with elapsed := elapsed, msInSecond := t.msInSecond + 1 }
  else { t with elapsed := elapsed, msInSecond := 0, secondTrim := t.trim, secondTicksDue := t.secondTicksDue + 1 }

/-- R171: without retained state, a main supply that stands above its threshold is counted by the elapsed base alone (log entry
3). -/
def countSupply (s : State) : State :=
  if s.starts.mainUpSince.isSome then
    { s with timebase := { s.timebase with elapsed := (s.timebase.elapsed + 1) % Config.elapsedModulus } }
  else s

/-- MILLISECOND_TICK (R3), with the inputs' samples (R64) and the bell current's (R132). -/
def millisecondTick (pins : Pins) (s : State) : State :=
  if powered s then senseBell pins (sampleInputs pins (countClock { s with timebase := s.timebase.tick })) else countSupply s

/-! ### Steps (R8) -/

/-- R8: the direction of a step. -/
def stepDirection (c : Clock) (new : Stamp) : StepDirection :=
  if c.isSet then (if 0 ≤ clockDiff new c.stamp then .forward else .backward) else .initial

/-- R5: two clock values lie on different clock days. -/
def otherDay (a b : Stamp) : Bool := decide (a.week ≠ b.week) || decide (dayOfWeek a.minute ≠ dayOfWeek b.minute)

/-- R8: the clock after a step. -/
def steppedClock (new : Stamp) : Clock :=
  { week := new.week, minute := new.minute, second := new.second, subMs := 0, isSet := true }

/-- R8, R9: the clock is stepped to a value, and the STEP announcement is handed to the roster, the Bell Controller and the
panel. Announcements that fell due before are handed on first. -/
def stepClock (new : Stamp) (cause : StepCause) (s0 : State) : State :=
  let s := handAnnouncements s0
  let old := s.clock
  let s1 := { s with clock := steppedClock new }
  let s2 := if old.week ≠ new.week then rosterWeekChange new.week s1 else s1
  showClock new.minute (bellStep old.abs cause (stepDirection old new) (otherDay old.stamp new) s2)

/-- R15: a valid Set Clock. -/
def setClockTo (new : Stamp) (s : State) : State × ReplyStatus := (stepClock new .setClock s, .done)

/-! ### Meanings -/

/-- ADVANCE (R7). -/
def execAdvance (s : State) : Host.Outcome State Fault Refusal := .next (advance s)

/-- MILLISECOND_TICK (R3). -/
def execMillisecondTick (pins : Pins) (s : State) : Host.Outcome State Fault Refusal := .next (millisecondTick pins s)

end Sys2Proof.Machine
end

