-- ==== Sys2Proof/Machine/Peers.lean ====
section
/-! DEFINITION. The peer table, the beacon timer, the duplicate number hold and the clock comparison (R10 to R21). -/

namespace Sys2Proof.Machine

/-! ### Elapsed seconds (R2, R18) -/

/-- R18: an entry at an elapsed second tick. -/
def Peer.aged (p : Peer) : Peer :=
  let age := min Config.peerAgeMax (p.age + 1)
  { p with age := age, state := if age = Config.peerSilentAge then .silent else p.state }

/-- R10: the beacon timer at an elapsed second tick. -/
def BeaconTimer.tick (b : BeaconTimer) : BeaconTimer := { b with count := b.count + 1 }

/-- ELAPSED_SECOND_TICK (R18): a one-second tick of the timebase that is not taken yet: ages, the beacon period and the duplicate
number hold advance. -/
def elapsedSecondTick (s : State) : State :=
  if powered s && decide (0 < s.timebase.secondTicksDue) then
    { s with timebase := { s.timebase with secondTicksDue := s.timebase.secondTicksDue - 1 }
             peers := { entries := s.peers.entries.map Peer.aged
                        beacon := s.peers.beacon.map BeaconTimer.tick
                        duplicate := s.peers.duplicate.map (· + 1) } }
  else s

/-- DUPLICATE_HOLD_EXPIRY (R20): 60 elapsed seconds have passed since the last frame with the own number. -/
def duplicateHoldExpiry (s : State) : State :=
  match s.peers.duplicate with
  | none => s
  | some n =>
    if powered s && decide (Config.duplicateHold ≤ n) then { s with peers := { s.peers with duplicate := none } } else s

/-! ### BEACON_DUE (R10 to R12) -/

/-- R12: an earlier beacon of this station is still in the transmit queue. -/
def beaconQueued (s : State) : Bool := s.line.tx.any (fun f => f.payload == .beacon)

/-- R10: the timer for the next beacon. -/
def BeaconTimer.again (b : BeaconTimer) : BeaconTimer := { count := b.count - b.target, target := Config.beaconPeriod }

/-- BEACON_DUE (R12): a BEACON frame is queued, or the beacon is skipped and counted. -/
def beaconDue (s : State) : State :=
  match s.peers.beacon with
  | none => s
  | some b =>
    if running s && decide (b.target ≤ b.count) then
      let s1 := { s with peers := { s.peers with beacon := some b.again } }
      if beaconQueued s then bump .beaconSkipped s1 else offer .beacon .beaconSkipped s1
    else s

/-! ### HEAR_BEACON (R13 to R17) -/

/-- R13: the role a beacon's role byte and source give. -/
def beaconRole (roleCode source : Nat) : Option Role :=
  if roleCode = 1 ∧ 1 ≤ source ∧ source ≤ 55 then some .gate
  else if roleCode = 2 ∧ 56 ≤ source ∧ source ≤ 63 then some .office
  else none

/-- R13: the zone a role may carry. -/
def beaconZoneOk (role : Role) (zone : Nat) : Bool :=
  match role with
  | .gate => decide (1 ≤ zone) && decide (zone ≤ 8)
  | .office => decide (zone = 0)

/-- R13: the checks of a beacon from a source: its role when it passes. -/
def beaconChecked (b : BeaconBody) (source : Nat) : Option Role :=
  match beaconRole b.roleCode source with
  | none => none
  | some role => if beaconZoneOk role b.zone && b.stamp.inRange then some role else none

/-- R16: a clock difference clamped to −127..+127. -/
def clampOffset (d : Int) : Int := max (-127) (min 127 d)

/-- R16: LAGGING as a beacon sets it. -/
def lags (b : BeaconBody) (ownSet : Bool) (d : Int) : Bool := b.flags.clockSet && ownSet && decide (d ≤ -2)

/-- R16: the entry a beacon gives. -/
def peerOf (b : BeaconBody) (role : Role) (source : Nat) (ownSet : Bool) (d : Int) : Peer :=
  { station := source, role := role, zone := b.zone, age := 0, state := .live, offset := clampOffset d,
    lagging := lags b ownSet d, flags := b.flags }

/-- R17: the greatest age of the SILENT entries, if any. -/
def oldestSilent (l : List Peer) : Option Nat :=
  l.foldl (fun best p => if p.state = .silent then (match best with | none => some p.age | some a => some (max a p.age)) else best)
    none

/-- R17: the list without the first SILENT entry of an age. -/
def dropSilent (age : Nat) : List Peer → List Peer
  | [] => []
  | p :: rest => if p.state = .silent ∧ p.age = age then rest else p :: dropSilent age rest

/-- R16, R17: the peer table after a beacon that passed its checks; none when the table is full of LIVE entries. -/
def tableWith (p : Peer) (l : List Peer) : Option (List Peer) :=
  if l.any (fun q => decide (q.station = p.station)) then
    some (l.map (fun q => if q.station = p.station then p else q))
  else if l.length < Config.peerMax then some (l ++ [p])
  else
    match oldestSilent l with
    | none => none
    | some age => some (dropSilent age l ++ [p])

/-- R16, R17: the peer table takes a beacon. -/
def tablePeer (p : Peer) (s : State) : State :=
  match tableWith p s.peers.entries with
  | some l => { s with peers := { s.peers with entries := l } }
  | none => bump .peerTableFull s

/-- R14: the clock comparison steps the clock to the beacon's. -/
def adopts (b : BeaconBody) (ownSet : Bool) (d : Int) : Bool := b.flags.clockSet && (!ownSet || decide (2 ≤ d))

/-- R14: the clock comparison. -/
def compareClock (b : BeaconBody) (ownSet : Bool) (d : Int) (s : State) : State :=
  if adopts b ownSet d then bump .clockAdopted (stepClock b.stamp .adoption s) else s

/-- R13 to R17: a beacon from a source is checked and taken. -/
def takeBeacon (b : BeaconBody) (source : Nat) (s : State) : State :=
  match beaconChecked b source with
  | none => bump .beaconInvalid s
  | some role =>
    let d := clockDiff b.stamp s.clock.stamp
    compareClock b s.clock.isSet d (tablePeer (peerOf b role source s.clock.isSet d) s)

/-- HEAR_BEACON (R13): a BEACON from the head of the receive buffer. -/
def hearBeacon (s : State) : State :=
  match s.line.rx with
  | [] => s
  | f :: rest =>
    if running s && f.kind == .beacon then
      takeBeacon (getBeacon f.body) f.source { s with line := { s.line with rx := rest } }
    else s

/-! ### Starts (R10, R21) -/

/-- R21: the peer table is emptied, the DUPLICATE NUMBER flag and its hold cleared, the beacon timer stopped. -/
def clearPeers (s : State) : State := { s with peers := PeerTable.initial }

/-- R10: the beacon timer starts: the first beacon is due (station number modulo 16) elapsed seconds after the start point. -/
def beginBeacon (s : State) : State :=
  { s with peers := { s.peers with beacon := some { count := 0, target := s.settings.station % 16 } } }

/-- R10: the beacon timer stops. -/
def stopBeacon (s : State) : State := { s with peers := { s.peers with beacon := none } }

/-! ### Meanings -/

/-- ELAPSED_SECOND_TICK (R18). -/
def execElapsedSecondTick (s : State) : Host.Outcome State Fault Refusal := .next (elapsedSecondTick s)

/-- DUPLICATE_HOLD_EXPIRY (R20). -/
def execDuplicateHoldExpiry (s : State) : Host.Outcome State Fault Refusal := .next (duplicateHoldExpiry s)

/-- BEACON_DUE (R12). -/
def execBeaconDue (s : State) : Host.Outcome State Fault Refusal := .next (beaconDue s)

/-- HEAR_BEACON (R13). -/
def execHearBeacon (s : State) : Host.Outcome State Fault Refusal := .next (hearBeacon s)

end Sys2Proof.Machine
end

