-- ==== Sys2Proof/Machine/Requests.lean ====
section
/-! DEFINITION. The Request Handler: acceptance, the sixteen request kinds, their replies, Read Status and Restart (R152 to R160). -/

namespace Sys2Proof.Machine

/-- A request as the handler reads it from a frame (R151). -/
structure Request where
  source      : Nat
  destination : Nat
  kind        : Byte
  tag         : Byte
  params      : List Byte
  deriving DecidableEq, Repr

/-- R151: the request of a frame. -/
def requestOf (f : RxFrame) : Request :=
  { source := f.source, destination := f.destination, kind := getByte f.body 0, tag := getByte f.body 1,
    params := f.body.drop 2 }

/-- R152: a request is addressed when its destination is not 0. -/
def Request.addressed (r : Request) : Bool := decide (r.destination ≠ 0)

/-- R152, test 1: the source is an office station. -/
def officeSource (n : Nat) : Bool := decide (56 ≤ n) && decide (n ≤ 63)

/-- R151, R152, test 2: the sixteen kind codes. -/
def requestKinds : List Byte :=
  [0x01#8, 0x02#8, 0x03#8, 0x04#8, 0x05#8, 0x06#8, 0x07#8, 0x08#8, 0x09#8, 0x10#8, 0x11#8, 0x12#8, 0x13#8, 0x14#8, 0x15#8,
   0x16#8]

/-- R153: a reply to a request. -/
def Request.reply (r : Request) (status : ReplyStatus) (data : List Byte) : Reply :=
  { destination := r.source, kind := r.kind, tag := r.tag, status := status, data := data }

/-- R152: a request that fails test 2, 4 or 5. -/
def badRequest (r : Request) (s : State) : State :=
  if r.addressed then offerReply (r.reply .badValue []) s else bump .requestInvalid s

/-- What an owner hands back: the state, and the status and data of the reply, none while a Bell Test is in flight. -/
abbrev Answer := State × Option (ReplyStatus × List Byte)

/-- An answer with a status and no data. -/
def answer (x : State × ReplyStatus) : Answer := (x.1, some (x.2, []))

/-- R153, R154: an addressed request's reply is offered; a broadcast one has none. -/
def sendAnswer (r : Request) (x : Answer) : State :=
  match x.2 with
  | none => x.1
  | some (status, data) => if r.addressed then offerReply (r.reply status data) x.1 else x.1

/-- A request kind (R152, R155, R156): its code, whether it may be broadcast, its parameter length, its ranges and its owner. -/
structure RequestKind where
  code      : Byte
  broadcast : Bool
  length    : Nat
  inRange   : List Byte → Bool
  apply     : Request → State → Answer

/-- R152, tests 3 to 5, and R153: a request of a kind is tested and applied. -/
def RequestKind.handle (k : RequestKind) (r : Request) (s : State) : State :=
  if !r.addressed && !k.broadcast then bump .notBroadcast s
  else if r.params.length ≠ k.length ∨ k.inRange r.params = false then badRequest r s
  else sendAnswer r (k.apply r s)

/-- R152: the head of the receive buffer is a request of a kind from an office station. -/
def isRequest (f : RxFrame) (code : Byte) : Bool :=
  f.kind == .request && officeSource f.source && decide (getByte f.body 0 = code)

/-- R152, R154, R159: the handler takes a request of a kind from the head of the receive buffer; while a Restart is pending it is
discarded. -/
def serve (k : RequestKind) (s : State) : State :=
  match s.line.rx with
  | [] => s
  | f :: rest =>
    if running s && isRequest f k.code then
      let s1 := { s with line := { s.line with rx := rest } }
      if s.restart = .none then k.handle (requestOf f) s1 else s1
    else s

/-! ### Kinds that change state (R155) -/

/-- R155: the badge of the parameters. -/
def paramBadge (p : List Byte) : Nat := get p 0 3

/-- R155: the badge lies in 1..16,777,214. -/
def badgeOk (p : List Byte) : Bool := badgeInRange (paramBadge p)

/-- R155: Enrol. -/
def enrolKind : RequestKind :=
  { code := 0x01#8, broadcast := true, length := 5,
    inRange := fun p => badgeOk p && decide (get p 3 1 ≤ 12) && decide (get p 4 1 ≤ 7),
    apply := fun r s => answer (enrolRecord (paramBadge r.params) (get r.params 3 1) (get r.params 4 1) r.addressed s) }

/-- R155: Bar. -/
def barKind : RequestKind :=
  { code := 0x02#8, broadcast := true, length := 3, inRange := badgeOk,
    apply := fun r s => answer (barRecord (paramBadge r.params) s) }

/-- R155: Unbar. -/
def unbarKind : RequestKind :=
  { code := 0x03#8, broadcast := true, length := 3, inRange := badgeOk,
    apply := fun r s => answer (unbarRecord (paramBadge r.params) s) }

/-- R155: Withdraw. -/
def withdrawKind : RequestKind :=
  { code := 0x04#8, broadcast := true, length := 3, inRange := badgeOk,
    apply := fun r s => answer (withdrawRecord (paramBadge r.params) s) }

/-- R155: Flag. -/
def flagKind : RequestKind :=
  { code := 0x05#8, broadcast := true, length := 4, inRange := fun p => badgeOk p && decide (get p 3 1 ≤ 8),
    apply := fun r s => answer (flagRecord (paramBadge r.params) (get r.params 3 1) s) }

/-- R167: the text at an index of the message table is replaced. -/
def setMessageText (index : Nat) (text : List Byte) (s : State) : State × ReplyStatus :=
  ({ s with panel := { s.panel with messages := s.panel.messages.set (index - 1) text } }, .done)

/-- R155: Set Message. -/
def setMessageKind : RequestKind :=
  { code := 0x06#8, broadcast := true, length := 17, inRange := fun p => decide (1 ≤ get p 0 1) && decide (get p 0 1 ≤ 8),
    apply := fun r s => answer (setMessageText (get r.params 0 1) (r.params.drop 1) s) }

/-- R155: Set Clock. -/
def setClockKind : RequestKind :=
  { code := 0x07#8, broadcast := true, length := 5, inRange := fun p => (getStamp p 0).inRange,
    apply := fun r s => answer (setClockTo (getStamp r.params 0) s) }

/-- R155: Ring Now. -/
def ringNowKind : RequestKind :=
  { code := 0x08#8, broadcast := true, length := 1, inRange := fun p => patternOk (getByte p 0),
    apply := fun r s => answer (ringNowRing (patternOf (getByte r.params 0)) r.addressed s) }

/-- R155: Week Collected. -/
def weekCollectedKind : RequestKind :=
  { code := 0x09#8, broadcast := true, length := 2, inRange := fun _ => true,
    apply := fun r s => answer (collectWeek (get r.params 0 2) s) }

/-- R155: Remote Release. -/
def remoteReleaseKind : RequestKind :=
  { code := 0x10#8, broadcast := false, length := 0, inRange := fun _ => true, apply := fun _ s => answer (remoteReleaseGate s) }

/-- R135, R155: a Bell Test that is taken has its reply when its stroke ends. -/
def bellTestAnswer (r : Request) (s : State) : Answer :=
  match beginTest r.source r.tag s with
  | some s1 => (s1, none)
  | none => (s, some (.wrongState, []))

/-- R155: Bell Test. -/
def bellTestKind : RequestKind :=
  { code := 0x11#8, broadcast := false, length := 0, inRange := fun _ => true, apply := bellTestAnswer }

/-! ### Reading kinds (R156 to R158) -/

/-- R119, R156: Read Record. -/
def readRecordKind : RequestKind :=
  { code := 0x12#8, broadcast := false, length := 3, inRange := badgeOk,
    apply := fun r s => (s, some (recordReply s.roster (paramBadge r.params))) }

/-- R117, R156: Read Totals. -/
def readTotalsKind : RequestKind :=
  { code := 0x13#8, broadcast := false, length := 5,
    inRange := fun p => decide (get p 0 1 ≤ 1) && decide (get p 1 1 ≤ 1),
    apply := fun r s =>
      (s, some (.done, totalsReply s.roster (decide (get r.params 0 1 = 1)) (decide (get r.params 1 1 = 1)) (get r.params 2 3))) }

/-- R156, R163: Read Journal. -/
def readJournalKind : RequestKind :=
  { code := 0x14#8, broadcast := false, length := 2, inRange := fun _ => true,
    apply := fun r s => (s, some (journalReply s.journal (get r.params 0 2))) }

/-- R157: the number of a start cause. -/
def StartCause.code (c : StartCause) : Nat :=
  match c with
  | .cold => 0
  | .warm => 1
  | .powerReturn => 2

/-- R157: the number of a release cycle state. -/
def Cycle.code (c : Cycle) : Nat :=
  match c with
  | .off => 0
  | .idle => 1
  | .released => 2
  | .passing => 3
  | .heldOpen => 4
  | .forced => 5
  | .free => 6

/-- R157: the number of a bell state. -/
def BellState.code (b : BellState) : Nat :=
  match b with
  | .ready => 0
  | .faultedShort => 1
  | .faultedOpen => 2

/-- R157: the number of the pending punch. -/
def pendingCode (p : Option PendingPunch) : Nat :=
  match p with
  | none => 0
  | some p => match p.kind with | .punch => 1 | .passage => 2

/-- R157: byte 1 of section CONDITION. -/
def conditionFlags (f : BeaconFlags) : Byte :=
  byteOf (flagBit 0 f.clockSet + flagBit 1 f.isolated + flagBit 2 f.duplicate + flagBit 3 f.bellFault)

/-- R157: the 24 bytes of section CONDITION. -/
def conditionData (s : State) : List Byte :=
  put1 s.starts.cause.code ++ [conditionFlags (stationFlags s)] ++ putStamp s.clock.stamp ++ put1 s.gate.cycle.code ++
    put1 s.bell.state.code ++ putOptAbs s.bell.rush ++ put1 s.waiting.length ++ put1 s.line.tx.length ++ put1 s.line.reserved ++
    put2 s.roster.length ++ put1 s.peers.entries.length ++ putSigned2 s.timebase.trim ++ put2 s.settings.sum ++
    put1 (pendingCode s.pendingPunch)

/-- R157: section COUNTERS from a start index. -/
def countersData (s : State) (start : Nat) : List Byte :=
  let l := (s.counters.toList.drop start).take 24
  put1 start ++ put1 l.length ++ (l.map put2).flatten

/-- R158: the six bytes of a peer table entry. -/
def Peer.bytes (p : Peer) : List Byte :=
  put1 p.station ++ [p.statusByte] ++ put1 p.zone ++ put2 p.age ++ put1 (p.offset + 127).toNat

/-- R158: section PEERS from a start index. -/
def peersData (s : State) (start : Nat) : List Byte :=
  let l := (s.peers.entries.drop start).take 8
  put1 start ++ put1 l.length ++ put1 s.peers.entries.length ++ (l.map Peer.bytes).flatten

/-- R157: the data of a Read Status for a section 0..2 and a start index. -/
def statusData (s : State) (section_ start : Nat) : List Byte :=
  if section_ = 0 then conditionData s else if section_ = 1 then countersData s start else peersData s start

/-- R157: Read Status. -/
def readStatusKind : RequestKind :=
  { code := 0x15#8, broadcast := false, length := 2, inRange := fun p => decide (get p 0 1 ≤ 2),
    apply := fun r s => (s, some (.done, statusData s (get r.params 0 1) (get r.params 1 1))) }

/-! ### Restart (R159) -/

/-- R159: Restart pending is set. When its reply will be dropped at its offer, the warm start is due at once. -/
def restartAnswer (s : State) : Answer :=
  ({ s with restart := if 1 ≤ txSpace s then .pending else .replyLeft }, some (.done, []))

/-- R159: Restart. -/
def restartKind : RequestKind :=
  { code := 0x16#8, broadcast := false, length := 0, inRange := fun _ => true, apply := fun _ s => restartAnswer s }

/-! ### REQUEST_INVALID (R152) -/

/-- R152, tests 1 and 2: a request from a foreign source or of an unknown kind. -/
def isInvalidRequest (f : RxFrame) : Bool :=
  f.kind == .request && (!officeSource f.source || !requestKinds.contains (getByte f.body 0))

/-- REQUEST_INVALID (R152): ignored and counted, or answered BAD VALUE; while a Restart is pending it is discarded (R159). -/
def requestInvalid (s : State) : State :=
  match s.line.rx with
  | [] => s
  | f :: rest =>
    if running s && isInvalidRequest f then
      let s1 := { s with line := { s.line with rx := rest } }
      if s.restart ≠ .none then s1
      else if officeSource f.source then badRequest (requestOf f) s1
      else bump .foreignSource s1
    else s

/-! ### Meanings -/

/-- ENROL (R26, R27). -/
def execEnrol (s : State) : Host.Outcome State Fault Refusal := .next (serve enrolKind s)

/-- BAR (R29). -/
def execBar (s : State) : Host.Outcome State Fault Refusal := .next (serve barKind s)

/-- UNBAR (R29). -/
def execUnbar (s : State) : Host.Outcome State Fault Refusal := .next (serve unbarKind s)

/-- WITHDRAW (R28). -/
def execWithdraw (s : State) : Host.Outcome State Fault Refusal := .next (serve withdrawKind s)

/-- FLAG (R30). -/
def execFlag (s : State) : Host.Outcome State Fault Refusal := .next (serve flagKind s)

/-- SET_MESSAGE (R167). -/
def execSetMessage (s : State) : Host.Outcome State Fault Refusal := .next (serve setMessageKind s)

/-- SET_CLOCK (R15). -/
def execSetClock (s : State) : Host.Outcome State Fault Refusal := .next (serve setClockKind s)

/-- RING_NOW (R131). -/
def execRingNow (s : State) : Host.Outcome State Fault Refusal := .next (serve ringNowKind s)

/-- WEEK_COLLECTED (R116). -/
def execWeekCollected (s : State) : Host.Outcome State Fault Refusal := .next (serve weekCollectedKind s)

/-- REMOTE_RELEASE (R71). -/
def execRemoteRelease (s : State) : Host.Outcome State Fault Refusal := .next (serve remoteReleaseKind s)

/-- BELL_TEST (R135). -/
def execBellTest (s : State) : Host.Outcome State Fault Refusal := .next (serve bellTestKind s)

/-- READ_RECORD (R119). -/
def execReadRecord (s : State) : Host.Outcome State Fault Refusal := .next (serve readRecordKind s)

/-- READ_TOTALS (R117). -/
def execReadTotals (s : State) : Host.Outcome State Fault Refusal := .next (serve readTotalsKind s)

/-- READ_JOURNAL (R163). -/
def execReadJournal (s : State) : Host.Outcome State Fault Refusal := .next (serve readJournalKind s)

/-- READ_STATUS (R157). -/
def execReadStatus (s : State) : Host.Outcome State Fault Refusal := .next (serve readStatusKind s)

/-- RESTART (R159). -/
def execRestart (s : State) : Host.Outcome State Fault Refusal := .next (serve restartKind s)

/-- REQUEST_INVALID (R152). -/
def execRequestInvalid (s : State) : Host.Outcome State Fault Refusal := .next (requestInvalid s)

end Sys2Proof.Machine
end

