-- ==== Sys2Proof/Machine/Starts.lean ====
section
/-! DEFINITION. The Configuration Loader and the Supply Monitor: the configuration read, the start kinds, the reset pin, BACKUP and
the return of power (R169 to R174, and what the other chapters say of starts). -/

namespace Sys2Proof.Machine

/-! ### Clearing counters, channels and the queue -/

/-- R171, R172: every counter is cleared. -/
def clearCounters (s : State) : State := { s with counters := Vector.replicate 38 0 }

/-- R43, R62: both channels become OFF: reads in progress, suppression lists and indications go. -/
def clearChannels (s : State) : State := { s with entryChannel := Channel.empty, exitChannel := Channel.empty }

/-- R62: the waiting queue is emptied without a journal entry. -/
def emptyWaiting (s : State) : State := { s with waiting := [] }

/-- R168: the panel stops. -/
def stopPanel (s : State) : State := { s with panel := s.panel.stopped }

/-- R159, R160: a Restart pending ends. -/
def endRestart (s : State) : State := { s with restart := .none }

/-- R60, R62, R82, R150, R160: what a warm start and an entry into BACKUP both do: the cycle becomes OFF and the pending punch is
withdrawn, queues, buffers and channels are emptied, the bell is silenced, the panel stops, a Restart pending ends. -/
def stopBlocks (s : State) : State :=
  endRestart (stopPanel (silenceBell (clearChannels (stopLine (emptyWaiting (withdrawPending (stopGate s)))))))

/-! ### The configuration read (R169) -/

/-- R169: a configuration read begins with its first try. -/
def beginRead (s : State) : State :=
  { s with starts := { s.starts with run := .reading, failedTries := 0, waitSince := none, outcome := .notRead } }

/-- R10, R66, R148, R150: the start point of a configured station: beacons, inputs, line and readers take up their work. -/
def startPoint (s : State) : State := beginLine (beginBeacon (beginSampling (clearChannels s)))

/-- R9, R168: the end of a configuration read: the panel begins afresh, and held announcements are handed on. -/
def endRead (s : State) : State := handAnnouncements (beginPanel s)

/-- R84, R170: a read whose image is refused makes the station UNCONFIGURED; the trim becomes 0 (R1), the tables of a refused image
are not taken. -/
def refuseImage (o : ReadOutcome) (s : State) : State :=
  endRead (beginSampling
    { s with starts := { s.starts with run := .unconfigured, waitSince := none, outcome := o }
             timebase := { s.timebase with trim := 0 } })

/-- R170: an accepted image takes effect at once in every block, and its end is the start point. -/
def acceptImage (img : List Byte) (s : State) : State :=
  endRead (startPoint
    { s with starts := { s.starts with run := .configured, waitSince := none, outcome := .accepted }
             settings := settingsOf img
             timebase := { s.timebase with trim := trimOf img } })

/-- R169: a try of the read runs. -/
def tryRuns (s : State) : Bool := readRuns s && s.starts.waitSince.isNone

/-- CONFIG_READ_COMPLETE (R170): a completed read is checked. -/
def configReadComplete (img : List Byte) (s : State) : State :=
  if tryRuns s then
    match checkImage img with
    | .accepted => acceptImage img s
    | .notRead => s
    | .memoryAbsent => refuseImage .memoryAbsent s
    | .badSum => refuseImage .badSum s
    | .badField i => refuseImage (.badField i) s
  else s

/-- TRY_NOT_ACKNOWLEDGED (R169): the try ends and the 10 ms wait starts, or the read ends with MEMORY ABSENT after the fourth. -/
def tryNotAcknowledged (s : State) : State :=
  if tryRuns s then
    if s.starts.failedTries + 1 < Config.readTries then
      { s with starts := { s.starts with failedTries := s.starts.failedTries + 1, waitSince := some s.now } }
    else refuseImage .memoryAbsent { s with starts := { s.starts with failedTries := s.starts.failedTries + 1 } }
  else s

/-- CONFIG_RETRY (R169): the 10 ms wait ends and the loader tries again. -/
def configRetry (s : State) : State :=
  match s.starts.waitSince with
  | none => s
  | some t =>
    if readRuns s && reached s.now t Config.retryWait then { s with starts := { s.starts with waitSince := none } } else s

/-! ### Cold start, reset pin, warm start (R171, R172) -/

/-- R171, R173: all state lost: nothing is retained and no supply holds the station. The commands that wait stay. A main supply
that stood above its threshold in BACKUP, not qualified yet, is counted afresh (log entry 3). -/
def unpowered (s : State) : State :=
  { State.reset with
    starts := { State.reset.starts with
                supply := .lost
                mainUpSince := if s.starts.supply == .backup then s.starts.mainUpSince.map (fun _ => 0) else none }
    pending := s.pending }

/-- R171, R174: the main supply has stood above its threshold for 250 ms. -/
def supplyQualified (s : State) : Bool :=
  match s.starts.mainUpSince with
  | none => false
  | some t => reached s.now t Config.supplyQualify

/-- COLD_START (R171): taken while the station holds no retained state and the main supply is qualified (log entry 3). -/
def coldStart (s : State) : State :=
  if s.starts.supply == .lost && supplyQualified s then { State.reset with pending := s.pending } else s

/-- RESET_PIN_ASSERTED (R172): in main power the station stands as at the beginning of a warm start: the read in progress is
abandoned, the gate's outputs go off, the channels become OFF, the line is released, the panel stops. -/
def resetPinAsserted (s : State) : State :=
  if s.starts.supply == .main && !s.starts.pinHeld then
    endRestart (stopPanel (cutLine (clearChannels (stopGate
      { s with starts := { s.starts with pinHeld := true, waitSince := none } }))))
  else s

/-- R172: the warm start: start cause WARM, every counter cleared, the pending punch withdrawn, queues and volatile state emptied,
the rush window closed; the image is read. -/
def doWarmStart (s : State) : State :=
  let s1 := clearCounters { s with starts := { s.starts with pinHeld := false, cause := .warm } }
  beginRead (clearPeers (closeRush (stopBlocks { s1 with starts := { s1.starts with run := .reading } })))

/-- R172: a warm start is due: the pin is held and now released, or a Restart's reply has left the queue. -/
def warmStartDue (s : State) : Bool :=
  s.starts.supply == .main && (s.starts.pinHeld || s.restart == .replyLeft)

/-- WARM_START (R172). -/
def warmStart (s : State) : State := if warmStartDue s then doWarmStart s else s

/-! ### BACKUP (R173, R174) -/

/-- BACKUP_ENTRY (R173): the main supply falls with the backup supply present. Each owner acts; the rush window and the peer table
are kept, the beacon timer stops (R10). -/
def backupEntry (s : State) : State :=
  if s.starts.supply == .main then
    stopBeacon (stopBlocks { s with starts := { s.starts with supply := .backup, mainUpSince := none, pinHeld := false,
                                                              waitSince := none } })
  else s

/-- BACKUP_SUPPLY_LOST (R173): the backup supply is lost in BACKUP, or the main supply falls in MAIN with no backup supply: all
state is lost. -/
def backupSupplyLost (s : State) : State := if powered s then unpowered s else s

/-- MAIN_SUPPLY_RISE (R174, R171): the qualification count begins to run. -/
def mainSupplyRise (s : State) : State :=
  if s.starts.supply != .main && s.starts.mainUpSince.isNone then
    { s with starts := { s.starts with mainUpSince := some s.now } }
  else s

/-- MAIN_SUPPLY_DIP (R174, R171): the qualification count is set back to 0. -/
def mainSupplyDip (s : State) : State :=
  if s.starts.supply != .main then { s with starts := { s.starts with mainUpSince := none } } else s

/-- R174: what a POWER RETURN clears. -/
def clearedAtReturn (s : State) : State :=
  clearPeers (closeRush (stopBlocks
    { s with starts := { s.starts with supply := .main, mainUpSince := none, cause := .powerReturn } }))

/-- POWER_RETURN (R174): the configuration kept governs from here; a station that was UNCONFIGURED returns UNCONFIGURED; a BACKUP
entered during a configuration read has the image read. -/
def powerReturn (s : State) : State :=
  if s.starts.supply == .backup && supplyQualified s then
    match s.starts.run with
    | .configured => beginPanel (startPoint (clearedAtReturn s))
    | .unconfigured => beginPanel (beginSampling (clearedAtReturn s))
    | .reading => beginRead (clearedAtReturn s)
  else s

/-! ### Meanings -/

/-- COLD_START (R171). -/
def execColdStart (s : State) : Host.Outcome State Fault Refusal := .next (coldStart s)

/-- RESET_PIN_ASSERTED (R172). -/
def execResetPinAsserted (s : State) : Host.Outcome State Fault Refusal := .next (resetPinAsserted s)

/-- WARM_START (R172). -/
def execWarmStart (s : State) : Host.Outcome State Fault Refusal := .next (warmStart s)

/-- CONFIG_RETRY (R169). -/
def execConfigRetry (s : State) : Host.Outcome State Fault Refusal := .next (configRetry s)

/-- CONFIG_READ_COMPLETE (R170): the image of a completed try has 512 bytes (R169). -/
def execConfigReadComplete (img : List Byte) (s : State) : Host.Outcome State Fault Refusal :=
  if img.length = Config.imageBytes then .next (configReadComplete img s) else .fault .imageLength

/-- BACKUP_ENTRY (R173). -/
def execBackupEntry (s : State) : Host.Outcome State Fault Refusal := .next (backupEntry s)

/-- BACKUP_SUPPLY_LOST (R173). -/
def execBackupSupplyLost (s : State) : Host.Outcome State Fault Refusal := .next (backupSupplyLost s)

/-- POWER_RETURN (R174). -/
def execPowerReturn (s : State) : Host.Outcome State Fault Refusal := .next (powerReturn s)

/-- MAIN_SUPPLY_RISE (R174). -/
def execMainSupplyRise (s : State) : Host.Outcome State Fault Refusal := .next (mainSupplyRise s)

/-- MAIN_SUPPLY_DIP (R174). -/
def execMainSupplyDip (s : State) : Host.Outcome State Fault Refusal := .next (mainSupplyDip s)

/-- TRY_NOT_ACKNOWLEDGED (R169). -/
def execTryNotAcknowledged (s : State) : Host.Outcome State Fault Refusal := .next (tryNotAcknowledged s)

end Sys2Proof.Machine
end

