-- ==== Sys2Proof/Machine/Dispatch.lean ====
section
/-! DEFINITION. exec: one arm per constructor of Instr, each a direct call of that command's meaning. A command acts on everything but the queue of waiting commands. -/

namespace Sys2Proof.Machine

/-- The effect of a command. -/
def exec (i : Instr) (s : State) : Host.Outcome State Fault Refusal :=
  match i with
  | .coldStart => Sys2Proof.Machine.execColdStart s
  | .resetPinAsserted => Sys2Proof.Machine.execResetPinAsserted s
  | .warmStart => Sys2Proof.Machine.execWarmStart s
  | .configRetry => Sys2Proof.Machine.execConfigRetry s
  | .configReadComplete image => Sys2Proof.Machine.execConfigReadComplete image s
  | .backupEntry => Sys2Proof.Machine.execBackupEntry s
  | .backupSupplyLost => Sys2Proof.Machine.execBackupSupplyLost s
  | .powerReturn => Sys2Proof.Machine.execPowerReturn s
  | .advance => Sys2Proof.Machine.execAdvance s
  | .elapsedSecondTick => Sys2Proof.Machine.execElapsedSecondTick s
  | .beaconDue => Sys2Proof.Machine.execBeaconDue s
  | .duplicateHoldExpiry => Sys2Proof.Machine.execDuplicateHoldExpiry s
  | .hearBeacon => Sys2Proof.Machine.execHearBeacon s
  | .hearPunch => Sys2Proof.Machine.execHearPunch s
  | .railStuck reader rail => Sys2Proof.Machine.execRailStuck reader rail s
  | .readEnd reader => Sys2Proof.Machine.execReadEnd reader s
  | .suppressionExpiry reader => Sys2Proof.Machine.execSuppressionExpiry reader s
  | .waitTimeout => Sys2Proof.Machine.execWaitTimeout s
  | .decideHead => Sys2Proof.Machine.execDecideHead s
  | .indicationExpiry reader => Sys2Proof.Machine.execIndicationExpiry reader s
  | .toneEnd reader => Sys2Proof.Machine.execToneEnd reader s
  | .inputsEstablished => Sys2Proof.Machine.execInputsEstablished s
  | .doorOpens => Sys2Proof.Machine.execDoorOpens s
  | .doorCloses => Sys2Proof.Machine.execDoorCloses s
  | .exitButtonPress => Sys2Proof.Machine.execExitButtonPress s
  | .freePassageAsserted => Sys2Proof.Machine.execFreePassageAsserted s
  | .freePassageReleased => Sys2Proof.Machine.execFreePassageReleased s
  | .releaseTimerExpiry => Sys2Proof.Machine.execReleaseTimerExpiry s
  | .holdTimerExpiry => Sys2Proof.Machine.execHoldTimerExpiry s
  | .hearRing => Sys2Proof.Machine.execHearRing s
  | .strokeEnd => Sys2Proof.Machine.execStrokeEnd s
  | .strokeShortCut => Sys2Proof.Machine.execStrokeShortCut s
  | .gapEnd => Sys2Proof.Machine.execGapEnd s
  | .pauseEnd => Sys2Proof.Machine.execPauseEnd s
  | .characterReceived cells => Sys2Proof.Machine.execCharacterReceived cells s
  | .sendAttemptStart => Sys2Proof.Machine.execSendAttemptStart s
  | .enrol => Sys2Proof.Machine.execEnrol s
  | .bar => Sys2Proof.Machine.execBar s
  | .unbar => Sys2Proof.Machine.execUnbar s
  | .withdraw => Sys2Proof.Machine.execWithdraw s
  | .flag => Sys2Proof.Machine.execFlag s
  | .setMessage => Sys2Proof.Machine.execSetMessage s
  | .setClock => Sys2Proof.Machine.execSetClock s
  | .ringNow => Sys2Proof.Machine.execRingNow s
  | .weekCollected => Sys2Proof.Machine.execWeekCollected s
  | .remoteRelease => Sys2Proof.Machine.execRemoteRelease s
  | .bellTest => Sys2Proof.Machine.execBellTest s
  | .readRecord => Sys2Proof.Machine.execReadRecord s
  | .readTotals => Sys2Proof.Machine.execReadTotals s
  | .readJournal => Sys2Proof.Machine.execReadJournal s
  | .readStatus => Sys2Proof.Machine.execReadStatus s
  | .restart => Sys2Proof.Machine.execRestart s
  | .requestInvalid => Sys2Proof.Machine.execRequestInvalid s
  | .panelOverlayExpiry => Sys2Proof.Machine.execPanelOverlayExpiry s
  | .panelTransferComplete => Sys2Proof.Machine.execPanelTransferComplete s
  | .qualifiedPulse reader rail overlaps => Sys2Proof.Machine.execQualifiedPulse reader rail overlaps s
  | .millisecondTick pins => Sys2Proof.Machine.execMillisecondTick pins s
  | .startBitConfirmed cell => Sys2Proof.Machine.execStartBitConfirmed cell s
  | .characterTimeEnd => Sys2Proof.Machine.execCharacterTimeEnd s
  | .mainSupplyRise => Sys2Proof.Machine.execMainSupplyRise s
  | .mainSupplyDip => Sys2Proof.Machine.execMainSupplyDip s
  | .tryNotAcknowledged => Sys2Proof.Machine.execTryNotAcknowledged s

end Sys2Proof.Machine
end

