-- ==== Sys2Proof/Machine/Outputs.lean ====
section
/-! DEFINITION. What the station shows at its output lines, as functions of the state (R43, R61, R67, R130, R139, R165, R169, R170). -/

namespace Sys2Proof.Machine

/-- R67: the release output is on while the cycle is RELEASED or FREE. -/
def releaseOutput (s : State) : Bool := s.gate.cycle == .released || s.gate.cycle == .free

/-- R67: the gate alarm output is on while the cycle is HELD OPEN or FORCED. -/
def alarmOutput (s : State) : Bool := s.gate.cycle == .heldOpen || s.gate.cycle == .forced

/-- R130, R138: the bell output is on in STRIKING, and off in BACKUP, while UNCONFIGURED and during a start. -/
def bellOutput (s : State) : Bool := running s && s.bell.sounder == .striking

/-- A reader's lamp (R61). -/
inductive Lamp where
  | off
  | amber
  | green
  | red
  | steadyRed
  deriving DecidableEq, Repr

/-- R43, R61: the lamp of a reader. That it is dark without any supply is the model's choice (log entry 3). What it shows while the
reset pin is held is the model's choice, STEADY RED, as during the configuration read that follows (log entry 10). -/
def lampOf (s : State) (r : Reader) : Lamp :=
  if !powered s then .off
  else if !running s then .steadyRed
  else if !channelEnabled s r then .off
  else
    match (s.channel r).indication with
    | some i => if i.admitted then .green else .red
    | none => if s.waiting.any (fun w => w.reader == r) then .amber else .off

/-- R61: the tone line of a reader. -/
def toneOutput (s : State) (r : Reader) : Bool :=
  channelEnabled s r && (match (s.channel r).tone with | none => false | some t => t.sounding)

/-- R139: the character the station drives on the line in an own attempt: byte and mark bit. Otherwise it releases the line. -/
def lineDrive (s : State) : Option (Byte × Bool) :=
  match s.line.attempt with
  | none => none
  | some a => some (a.bytes.getD a.done 0, decide (a.done = 0))

/-- R139: the levels of a character on the gate line, in the order they are sent: a start bit of 0, eight data bits with the least
significant first, the mark bit, a stop bit of 1. -/
def characterBits (data : Byte) (mark : Bool) : List Bool :=
  false :: (List.range 8).map (fun i => data.getLsbD i) ++ [mark, true]

/-- R139: the levels the station drives on the line for the character it sends. -/
def lineLevels (s : State) : Option (List Bool) := (lineDrive s).map (fun c => characterBits c.1 c.2)

/-- R165: the bytes of the transfer in progress on the panel link. -/
def panelLink (s : State) : Option (List Byte) := s.panel.transfer.map Transfer.bytes

/-- R165: the levels of a byte on the panel link, in the order they are sent: a start bit of 0, eight data bits with the least
significant first, a stop bit of 1. -/
def panelBits (b : Byte) : List Bool := false :: (List.range 8).map (fun i => b.getLsbD i) ++ [true]

/-- R165: the levels of the transfer in progress, byte after byte with no gap. -/
def panelLevels (s : State) : Option (List Bool) := (panelLink s).map (fun l => (l.map panelBits).flatten)

/-! ### The two-wire bus (R169) -/

/-- What the loader, the bus's master, does on the two-wire bus. A byte it reads is acknowledged by it or not. -/
inductive BusStep where
  | start
  | write (byte : Byte)
  | repeatedStart
  | read (acknowledge : Bool)
  | stop
  deriving DecidableEq, Repr

/-- R169: the address phase for writing: the device address 0x50 with the write bit. -/
def busAddressWrite : List BusStep := [.start, .write 0xA0#8]

/-- R169: the offset 0 as two bytes. -/
def busOffset : List BusStep := [.write 0x00#8, .write 0x00#8]

/-- R169: the address phase for reading: a repeated start and the device address with the read bit. -/
def busAddressRead : List BusStep := [.repeatedStart, .write 0xA1#8]

/-- R169: the bytes taken: each is acknowledged except the last. -/
def busReads (n : Nat) : List BusStep := List.replicate (n - 1) (.read true) ++ [.read false]

/-- R169: a try that completes: a random read at offset 0, then a sequential read of 512 bytes, and a stop. -/
def tryBus : List BusStep := busAddressWrite ++ busOffset ++ busAddressRead ++ busReads Config.imageBytes ++ [.stop]

/-- R169: which of the bytes that a try writes the memory does not acknowledge. -/
inductive BusRefusal where
  | addressWrite
  | offsetHigh
  | offsetLow
  | addressRead
  deriving DecidableEq, Repr

/-- R169: a try that is not acknowledged ends with a stop at the byte that was not. -/
def tryBusCut (at_ : BusRefusal) : List BusStep :=
  (match at_ with
   | .addressWrite => busAddressWrite
   | .offsetHigh => busAddressWrite ++ busOffset.take 1
   | .offsetLow => busAddressWrite ++ busOffset
   | .addressRead => busAddressWrite ++ busOffset ++ busAddressRead) ++ [.stop]

/-- R169: what the loader does on the bus in the try that runs, by the memory's answer: it acknowledges every byte written, and the
try is the one CONFIG_READ_COMPLETE ends, or there is one it does not acknowledge, and TRY_NOT_ACKNOWLEDGED ends the try. While no try
runs the loader does nothing: the memory is never written. -/
def loaderBus (refusal : Option BusRefusal) (s : State) : List BusStep :=
  if tryRuns s then
    match refusal with
    | none => tryBus
    | some i => tryBusCut i
  else []

end Sys2Proof.Machine
end

