-- ==== Sys2Proof/WellFormed.lean ====
section
/-! DEFINITION. Which commands are well formed. Every operand but one has exactly the values its type has; the image of a
completed read is 512 bytes (R169). -/

namespace Sys2Proof

/-- R169: a try takes 512 bytes, so a completed read hands on an image of 512 bytes; every other command is well formed. -/
def Instr.wellFormed : Instr → Bool
  | .configReadComplete image => image.length == Config.imageBytes
  | _ => true

end Sys2Proof
end

