-- ==== Sys2Proof/Safety.lean ====
section
/-! DEFINITION. What a safe run is, and the terms in which claims speak: the invariants that every step keeps, and a request as it
stands at the head of the receive buffer. -/

namespace Sys2Proof.Machine

/-! ### Safe runs -/

/-- The waiting commands are all ones the outside can give, so that none of them faults (R169). -/
def queueWellFormed (s : State) : Prop := ∀ c ∈ s.pending, c.wellFormed = true

/-- A run of n steps from a state stops at no fault and no refusal. -/
def SafeRun : Nat → State → Prop
  | 0, _ => True
  | n + 1, s => ∃ t, step s = .next t ∧ SafeRun n t

/-! ### The site clock (R3) -/

/-- R3: the ranges of the site clock. -/
def Clock.inRange (c : Clock) : Prop := c.week < 65536 ∧ c.minute < 10080 ∧ c.second < 60 ∧ c.subMs < 1000

/-- R3: the milliseconds the site clock shows since week 0 Mon 00:00. -/
def Clock.millis (c : Clock) : Nat := ((c.week * 10080 + c.minute) * 60 + c.second) * 1000 + c.subMs

/-! ### The transmit queue and the pending punch (R57, R145, R146) -/

/-- R146: the reservations a pending punch holds: one for a PUNCH, none for a PASSAGE. -/
def reservationsOf (p : Option PendingPunch) : Nat :=
  match p with
  | none => 0
  | some p => if p.kind = .punch then 1 else 0

/-- R57: a pending punch of kind PUNCH holds its stamp. -/
def PendingPunch.stamped (p : PendingPunch) : Prop := p.kind = .punch → p.stamp.isSome

/-- R57, R69, R145: frames and reservations together keep within 16, the reservations are those of the pending punch, and a
punch is pending only while the cycle waits for its passage, or while the reset pin holds the station (log entry 10). -/
def transmitQueueHolds (s : State) : Prop :=
  s.line.tx.length + s.line.reserved ≤ Config.txMax ∧ s.line.reserved = reservationsOf s.pendingPunch ∧
    ∀ p, s.pendingPunch = some p →
      p.stamped ∧ s.starts.run = .configured ∧ (s.gate.cycle = .released ∨ s.starts.pinHeld = true)

/-! ### The roster (R22, R23, R35, R107) -/

/-- R107: the ranges of a slot's fields. -/
def WeekSlot.inRange (w : WeekSlot) : Prop :=
  w.regular ≤ 65535 ∧ w.ot1 ≤ 65535 ∧ w.ot2 ≤ 65535 ∧ w.night ≤ 65535 ∧ w.credits ≤ 16777215 ∧ w.pay ≤ 4294967295 ∧
    w.intervals ≤ 255

/-- R23: the ranges of an accumulator's figures. -/
def Accumulator.inRange (a : Accumulator) : Prop := a.gross ≤ 2880 ∧ a.regular ≤ 2880 ∧ a.ot1 ≤ 2880 ∧ a.ot2 ≤ 2880

/-- R23, R35, R107: a record's fields lie in their ranges, it holds an open interval exactly while its presence is IN, its credited
keys are at most three and all distinct, its two tags differ, and COLLECTED is set on PREVIOUS alone. -/
structure Record.holds (x : Record) : Prop where
  badge     : 1 ≤ x.badge ∧ x.badge ≤ 16777214
  shiftCode : x.shiftCode ≤ 12
  rateClass : x.rateClass ≤ 7
  presence  : x.presence = .isIn ↔ x.interval.isSome = true
  acc       : ∀ a, x.acc = some a → a.inRange
  keys      : x.credited.length ≤ 3 ∧ x.credited.Nodup
  message   : ∀ m, x.message = some m → 1 ≤ m ∧ m ≤ 8
  tags      : x.current.tag ≠ x.previous.tag
  collected : x.current.collected = false
  current   : x.current.inRange
  previous  : x.previous.inRange

/-- R22: the roster holds at most 1,024 records in ascending badge number, each as R23 says; the site clock lies in its ranges. -/
def rosterHolds (s : State) : Prop :=
  s.roster.length ≤ Config.rosterMax ∧ s.roster.Pairwise (fun x y => x.badge < y.badge) ∧ (∀ x ∈ s.roster, x.holds) ∧
    s.clock.inRange

/-! ### The journal (R161, R162) -/

/-- R161: a list of entries whose sequences run on, modulo 65,536, from a first one. -/
def sequencesFrom (first : Nat) : List JournalEntry → Prop
  | [] => True
  | e :: rest => e.sequence = first ∧ sequencesFrom ((first + 1) % 65536) rest

/-- R161: flags and an announcement state stand on ADMITTED entries alone. -/
def JournalEntry.holds (e : JournalEntry) : Prop :=
  (e.flags.isSome = true ↔ e.outcome.isAdmitted = true) ∧ (e.announcement ≠ .none ↔ e.outcome.isAdmitted = true)

/-- R161: at most 512 entries, with consecutive sequences, the newest one less than the next sequence. -/
def journalHolds (s : State) : Prop :=
  s.journal.next < 65536 ∧ s.journal.entries.length ≤ Config.journalMax ∧
    sequencesFrom ((s.journal.next + (65536 - s.journal.entries.length)) % 65536) s.journal.entries ∧
    ∀ e ∈ s.journal.entries, e.holds

/-! ### Lists, counters and timers -/

/-- R47: a suppression list holds at most 8 entries and no badge twice. -/
def suppressionHolds (l : List Suppressed) : Prop := l.length ≤ Config.suppressionMax ∧ (l.map Suppressed.badge).Nodup

/-- R16, R47, R49, R68, R129, R144, "Counters": the lists keep within their capacities, the counters within 65,535 with index 18 at 0,
and the release and hold timers run exactly in RELEASED and PASSING. -/
structure capacitiesHold (s : State) : Prop where
  rx        : s.line.rx.length ≤ Config.rxMax
  waiting   : s.waiting.length ≤ Config.rushCapacity
  rings     : s.bell.queue.length ≤ Config.ringMax
  entryList : suppressionHolds s.entryChannel.suppression
  exitList  : suppressionHolds s.exitChannel.suppression
  peers     : s.peers.entries.length ≤ Config.peerMax ∧ (s.peers.entries.map Peer.station).Nodup
  counters  : (∀ i : Fin 38, s.counters.get i ≤ Config.counterMax) ∧ s.counters.get 18 = 0
  release   : s.gate.releaseTimer.isSome = true ↔ s.gate.cycle = .released
  hold      : s.gate.holdTimer.isSome = true ↔ s.gate.cycle = .passing

/-! ### BACKUP (R173) -/

/-- R43, R60, R62, R67, R82, R138, R150, R160, R168: what stands stopped and empty while the main supply does not hold the station. -/
structure stopped (s : State) : Prop where
  cycle    : s.gate.cycle = .off
  pending  : s.pendingPunch = none
  waiting  : s.waiting = []
  entryCh  : s.entryChannel = Channel.empty
  exitCh   : s.exitChannel = Channel.empty
  frames   : s.line.tx = [] ∧ s.line.rx = [] ∧ s.line.attempt = none ∧ s.line.assembly = none
  sounder  : s.bell.sounder = .quiet ∧ s.bell.queue = [] ∧ s.bell.current = none
  beacon   : s.peers.beacon = none
  restart  : s.restart = .none
  panel    : s.panel.overlay = none ∧ s.panel.transfer = none

/-- R173: without the main supply the station stands stopped. -/
def quietWithoutMain (s : State) : Prop := s.starts.supply ≠ .main → stopped s

/-! ### Requests at the head of the receive buffer (R144, R152) -/

/-- R151: a request frame with two head bytes and parameters. -/
def requestFrame (office destination : Nat) (code tag : Byte) (params : List Byte) : RxFrame :=
  { kind := .request, source := office, destination := destination, body := code :: tag :: params }

/-- R152, R154, R159: the station hears requests, no Restart is pending, and an office station's request stands at the head. -/
def requestReady (s : State) (office destination : Nat) (code tag : Byte) (params : List Byte) (rest : List RxFrame) : Prop :=
  running s = true ∧ s.restart = .none ∧ 56 ≤ office ∧ office ≤ 63 ∧
    s.line.rx = requestFrame office destination code tag params :: rest

/-- R144: the state once the head of the receive buffer has been taken. -/
def taken (s : State) (rest : List RxFrame) : State := { s with line := { s.line with rx := rest } }

/-- R153, R154: an addressed request is answered by one reply offered to the transmit queue, a broadcast one by none. -/
def answered (office destination : Nat) (code tag : Byte) (status : ReplyStatus) (data : List Byte) (s : State) : State :=
  if destination = 0 then s
  else offerReply { destination := office, kind := code, tag := tag, status := status, data := data } s

/-! ### What an outcome leaves (R46, R49, R50, R54, R61, R161, R166) -/

/-- R161: one entry joined the tail of the journal under the next sequence, the oldest of 512 making room. -/
def wrote (s t : State) (stamp : Stamp) (reader : Option Reader) (badge : Option Nat) (outcome : JournalOutcome)
    (announcement : Announcement) (flags : Option PunchFlags) : Prop :=
  t.journal =
    { entries :=
        (if 512 ≤ s.journal.entries.length then s.journal.entries.tail else s.journal.entries) ++
          [{ sequence := s.journal.next, stamp := stamp, clockSet := s.clock.isSet, reader := reader, badge := badge,
             outcome := outcome, announcement := announcement, flags := flags }],
      next := (s.journal.next + 1) % 65536 }

/-- R166: an overlay with a text of 16 codes stands on row 1 from now on, for a duration; the text saved is the one saved when the
first overlay opened. -/
def overlaid (s t : State) (text : List Byte) (duration : Nat) : Prop :=
  t.panel.row1 = text ∧
    t.panel.overlay = some { saved := (match s.panel.overlay with | none => s.panel.row1 | some o => o.saved),
                             timer := { start := s.now, duration := duration } }

/-- R61: an indication starts on a reader with its first tone. -/
def indicated (s t : State) (r : Reader) (admitted : Bool) : Prop :=
  (t.channel r).indication = some { admitted := admitted, start := s.now } ∧
    (t.channel r).tone =
      some { sounding := true, toCome := if admitted then 0 else 2,
             timer := { start := s.now, duration := if admitted then 300 else 150 } }

/-- R47: an outcome for a badge entered the suppression list of its reader with its time: an entry of the badge made room, the new one
stands at the tail, and of nine the oldest went. -/
def listed (s t : State) (r : Reader) (badge : Nat) : Prop :=
  ∀ others, others = (s.channel r).suppression.filter (fun e => decide (e.badge ≠ badge)) →
    (others.length < 8 → (t.channel r).suppression = others ++ [{ badge := badge, time := s.now }]) ∧
      (8 ≤ others.length → (t.channel r).suppression = others.tail ++ [{ badge := badge, time := s.now }])

/-- The other reader. -/
def otherReader (r : Reader) : Reader :=
  match r with
  | .entry => .exit
  | .exit => .entry

/-- R46: a refusal is journaled with the clock as its stamp, shown on the panel for 3 seconds and indicated on the reader. -/
def refusedAt (s t : State) (r : Reader) (badge : Option Nat) (reason : Reason) : Prop :=
  wrote s t s.clock.stamp (some r) badge (.refused reason) .none none ∧ overlaid s t (refusalText reason) 3000 ∧
    indicated s t r false ∧ t.channel (otherReader r) = s.channel (otherReader r)

/-! ### The journal where the station stops (R60, R62, R150, R162, R164) -/

/-- R150, R162: a frame of the transmit queue is the notice an entry was written for. -/
def TxFrame.isFor (f : TxFrame) (e : JournalEntry) : Bool :=
  match f.payload with
  | .punch n => e.isFor n
  | .beacon => false
  | .ring _ => false
  | .reply _ => false

/-- R150, R162, R164: the entries of the queued notices are marked LOST, every other entry is kept. -/
def lostWith (frames : List TxFrame) (entries : List JournalEntry) : List JournalEntry :=
  entries.map (fun e => if frames.any (fun f => f.isFor e) then { e with announcement := .lost } else e)

/-- R60, R62, R150, R164: the journal once the transmit queue is emptied and a pending punch withdrawn, with its WITHDRAWN entry at the
tail, the oldest of 512 making room. -/
def journalStopped (s t : State) : Prop :=
  (s.pendingPunch = none → t.journal = { entries := lostWith s.line.tx s.journal.entries, next := s.journal.next }) ∧
    ∀ p, s.pendingPunch = some p →
      t.journal =
        { entries :=
            lostWith s.line.tx (if 512 ≤ s.journal.entries.length then s.journal.entries.tail else s.journal.entries) ++
              [{ sequence := s.journal.next, stamp := s.clock.stamp, clockSet := s.clock.isSet, reader := some p.reader,
                 badge := some p.badge, outcome := .withdrawn, announcement := .none, flags := none }],
          next := (s.journal.next + 1) % 65536 }

/-! ### The panel begun afresh (R168) -/

/-- R168: the panel has begun afresh with a base text: row 1 holds it, row 2 the clock as it stands, and both rows are sent, row 1
first. -/
def panelBegun (s t : State) (text : List Byte) : Prop :=
  t.panel = { s.panel with base := text, row1 := text, row2 := clockRow s.clock.isSet s.clock.minute, overlay := none
                           mark1 := false, mark2 := true, transfer := some { row := .one, codes := text } }

/-! ### A frame that joins the transmit queue (R145, R147) -/

/-- R145, R147: a frame joined the tail of the transmit queue; one that became the head set the backoff to 0. -/
def queuedFrame (s t : State) (p : TxPayload) : Prop :=
  t.line = { s.line with tx := s.line.tx ++ [{ payload := p, attempts := 0 }]
                         backoff := if s.line.tx = [] then 0 else s.line.backoff }

/-! ### The commit of a punch (R58) -/

/-- R58, R59, R104, R105, R161, R167: a pending punch has committed with its punch stamp: the roster is the one its commit leaves, and
the notice's parts and flags are those it hands back (OwnCommitChangesTheRecord says which); ADMITTED is journaled and QUEUED, its
notice is at the tail of the transmit queue with the reservations given, a message delivered is shown for 6 seconds, and the counters
are those the roster's part of the commit leaves, but for the journal's own and DECISION HELD. -/
def committed (s t : State) (p : PendingPunch) (stamp : Stamp) (reserved : Nat) : Prop :=
  t.roster = (commitRoster p stamp s).1.roster ∧
    (∀ n, n = commitNotice p stamp (commitRoster p stamp s).2 s.journal.next →
      n.badge = p.badge ∧ n.stamp = stamp ∧ n.sequence = s.journal.next ∧
        n.direction = (if p.reader = .entry then .inward else .outward) ∧ n.flags.softPassback = p.softPassback ∧
        n.flags.unpaired = p.unpaired ∧ n.flags.crossed = (commitRoster p stamp s).2.crossed ∧
        (n.flags.delivered = true ↔ ∃ m, (commitRoster p stamp s).2.message = some m) ∧
        n.occurrence = (commitRoster p stamp s).2.occurrence ∧ n.superseded = (commitRoster p stamp s).2.superseded ∧
        n.result = (commitRoster p stamp s).2.result ∧
        wrote s t stamp (some p.reader) (some p.badge) (if p.reader = .entry then .admittedIn else .admittedOut) .queued
          (some n.flags) ∧
        t.line = { s.line with tx := s.line.tx ++ [{ payload := .punch n, attempts := 0 }], reserved := reserved,
                               backoff := if s.line.tx = [] then 0 else s.line.backoff }) ∧
    (∀ index, (commitRoster p stamp s).2.message = some index →
      overlaid s t (rowText (s.panel.messages.getD (index - 1) spaces)) 6000) ∧
    ∀ k, k ≠ .journalOverwritten → k ≠ .decisionHeld → t.counter k = (commitRoster p stamp s).1.counter k

/-! ### A badge code (R45) -/

/-- R45: the number that eight of the bits read spell, from a place on, the most significant first. -/
def bitsFrom (bits : List Bool) (i : Nat) : Nat :=
  ((List.range 8).map (fun j => if bits.getD (i + j) false then 2 ^ (7 - j) else 0)).sum

/-! ### Crediting and accumulators (R24, R25, R36, R40, R109, R110) -/

/-- R38: the roster before and after a punch that leaves a record as given has been handled: a LEAVING record that is OUT is removed,
any other stands in the place of the record of its badge. -/
def settledAs (y : Record) (before after : List Record) : Prop :=
  (y.status = .leaving → y.presence = .isOut → after = before.filter (fun x => decide (x.badge ≠ y.badge))) ∧
    (y.status ≠ .leaving ∨ y.presence ≠ .isOut → after = before.map (fun x => if x.badge = y.badge then y else x))

/-- R109, R110: CURRENT and PREVIOUS before and after a result is credited: to the slot tagged with the week of its in-stamp, with
COLLECTED cleared on PREVIOUS, or to none. -/
def slotsCredited (r : PayResult) (current previous current' previous' : WeekSlot) : Prop :=
  (current.tag = r.key.stamp.week → current' = current.credit r ∧ previous' = previous) ∧
    (current.tag ≠ r.key.stamp.week → previous.tag = r.key.stamp.week →
      current' = current ∧ previous' = { previous.credit r with collected := false }) ∧
    (current.tag ≠ r.key.stamp.week → previous.tag ≠ r.key.stamp.week → current' = current ∧ previous' = previous)

/-- R109, R110: the counters RESULT STALE and COLLECTED WEEK CREDITED at the crediting of a result to a record. -/
def creditCounted (r : PayResult) (x : Record) (s t : State) : Prop :=
  t.counter .resultStale =
      (if x.current.tag ≠ r.key.stamp.week ∧ x.previous.tag ≠ r.key.stamp.week then min 65535 (s.counter .resultStale + 1)
      else s.counter .resultStale) ∧
    t.counter .collectedCredited =
      (if x.current.tag ≠ r.key.stamp.week ∧ x.previous.tag = r.key.stamp.week ∧ x.previous.collected = true then
        min 65535 (s.counter .collectedCredited + 1)
      else s.counter .collectedCredited)

/-- R24: the accumulator before and after the opening of an interval: kept for NO SHIFT, set afresh for another occurrence, kept for
the same one, whose break is TAKEN when none was deducted or taken and the worker was out for its length. -/
def accumulatorOpened (c : Settings) (inStamp : Stamp) (o : Occurrence) (acc acc' : Option Accumulator) : Prop :=
  (o.kind = .noShift → acc' = acc) ∧
    ∀ start, o.kind ≠ .noShift → o.start = some start →
      ((∀ a, acc = some a → a.start ≠ start) →
        acc' = some { start := start, code := o.code, gross := 0, regular := 0, ot1 := 0, ot2 := 0, breakState := .none,
                      lastOut := none }) ∧
      ∀ a, acc = some a → a.start = start →
        (∀ out, a.lastOut = some out → a.breakState = .none → 0 < (c.shift o.code).breakLength →
            ((c.shift o.code).breakLength : Int) * 60 ≤ clockDiff inStamp out →
          acc' = some { a with breakState := .taken }) ∧
        ((∀ out, a.lastOut = some out → a.breakState = .none → 0 < (c.shift o.code).breakLength →
            clockDiff inStamp out < ((c.shift o.code).breakLength : Int) * 60) → acc' = some a)

/-- R25, R40: the last out stamp once a punch stamp has come: the punch stamp when none stood or the one that stood is earlier. -/
def lastOutAfter (old : Option Stamp) (stamp : Stamp) : Stamp :=
  match old with
  | none => stamp
  | some o => if clockDiff o stamp < 0 then stamp else o

/-- R25: the accumulator before and after a heard result of its occurrence is added. The gross minutes of a sum below 0 are left free
within their range (log entry 4). -/
def heardAdded (r : PayResult) (stamp : Stamp) (a b : Accumulator) : Prop :=
  (∀ gross : Int, gross = a.gross +
        (if r.flags.noShift || r.flags.negative || r.flags.overlong || r.flags.nullSpan then 0 else absDiff r.effOut r.effIn) →
      0 ≤ gross → b.gross = min 2880 gross.toNat) ∧
    b = { a with gross := b.gross, regular := min 2880 (a.regular + r.regular), ot1 := min 2880 (a.ot1 + r.ot1),
                 ot2 := min 2880 (a.ot2 + r.ot2), breakState := if r.flags.breakDeducted then .deducted else a.breakState,
                 lastOut := some (lastOutAfter a.lastOut stamp) }

/-- R40, step 3: the accumulator before and after the last out stamp of an interval's occurrence is brought up to a punch stamp. -/
def lastOutTouched (start : Option Nat) (stamp : Stamp) (acc acc' : Option Accumulator) : Prop :=
  (acc = none → acc' = none) ∧
    ∀ a, acc = some a →
      (start = some a.start → acc' = some { a with lastOut := some (lastOutAfter a.lastOut stamp) }) ∧
        (start ≠ some a.start → acc' = acc)

/-! ### A close that is paid (R94 to R98) -/

/-- R94 to R98: a result that is not zero, of a span W of at least 1, and the accumulator after it. The span is held at 2,880. The
accumulator is the one handed over when it is of this occurrence, and a fresh one otherwise. The break is deducted once, at the
threshold. Each paid minute stands on the scale of the occurrence's net minutes, below the regular limit, from it up to the overtime
limit, or above that. Each minute of the span counts as a night minute by itself. -/
def paidAs (c : Settings) (iv : OpenInterval) (acc : Option Accumulator) (start effIn effOut : Nat) (w : Int) (r : PayResult)
    (after : Option Accumulator) : Prop :=
  ∀ (e : ShiftEntry) (span net paid low high : Nat) (a : Accumulator) (night : Nat → Bool),
    e = c.shift iv.code → span = min 2880 w.toNat →
    ((∃ b, acc = some b ∧ b.start = start ∧ a = b) ∨
      ((∀ b, acc = some b → b.start ≠ start) ∧
        a = { start := start, code := iv.code, gross := 0, regular := 0, ot1 := 0, ot2 := 0, breakState := .none, lastOut := none })) →
    net = a.regular + a.ot1 + a.ot2 → paid = span - r.breakMinutes →
    low = (if iv.kind = .scheduled then e.limit else 0) →
    high = (if iv.kind = .scheduled then e.limit2 else e.limit2 - e.limit) →
    (∀ m, night m = ((decide (c.nightStart < c.nightEnd) && decide (c.nightStart ≤ m) && decide (m < c.nightEnd)) ||
      (decide (c.nightEnd < c.nightStart) && (decide (c.nightStart ≤ m) || decide (m < c.nightEnd))))) →
    r.key = iv.key ∧ r.start = some start ∧ r.effIn = effIn ∧
      r.effOut = (if 2880 < w then absAdd effIn 2880 else effOut) ∧
      r.flags = { ResultFlags.clear with offDay := decide (iv.kind = .offDay), breakDeducted := r.flags.breakDeducted } ∧
      (r.flags.breakDeducted = true ↔
        a.breakState = .none ∧ 0 < e.breakLength ∧ e.threshold ≤ min 2880 (a.gross + span)) ∧
      r.breakMinutes = (if r.flags.breakDeducted then min e.breakLength span else 0) ∧
      r.regular = ((List.range paid).filter (fun k => decide (net + k < low))).length ∧
      r.ot1 = ((List.range paid).filter (fun k => decide (low ≤ net + k) && decide (net + k < high))).length ∧
      r.ot2 = ((List.range paid).filter (fun k => decide (high ≤ net + k))).length ∧
      r.night = ((List.range span).filter (fun k => night ((effIn + k) % 660602880 % 1440))).length ∧
      after = some { a with
        gross := min 2880 (a.gross + span), regular := min 2880 (a.regular + r.regular), ot1 := min 2880 (a.ot1 + r.ot1)
        ot2 := min 2880 (a.ot2 + r.ot2), breakState := if r.flags.breakDeducted then .deducted else a.breakState }

/-! ### Firing (R122, R123, R127, R136) -/

/-- R120, R122: an entry falls due at a clock value, its mark not being clear or not by the state given: it applies on the day and has
the minute, and CLOCK SET is true. -/
def dueAt (s : State) (c : Stamp) (i : Nat) : Bool :=
  s.clock.isSet && (s.settings.bell i).applies (dayOfWeek c.minute) s.settings.zone &&
    decide ((s.settings.bell i).minute = minuteOfDay c.minute)

/-- R123, R129, R136: the bell at the firing or the following of an entry on the clock day of a clock value, between two states: its
ring and its rush window. -/
def bellFollows (s t : State) (c : Stamp) (i : Nat) : Prop :=
  ∀ e stop, e = s.settings.bell i →
    stop = absAdd (absMinute c.week (dayOfWeek c.minute * 1440 + e.minute)) e.rush →
    (s.bell.state = .ready → s.bell.sounder = .quiet → s.bell.queue = [] →
      t.bell = { s.bell with
        sounder := .striking, current := some (.ring { pattern := e.pattern, origin := .scheduled } (e.pattern.strokes - 1))
        timer := some { start := s.now, duration := e.pattern.strokeLength }, sum := 0, number := 0, aboveRun := 0
        highest := 0, marks := t.bell.marks, rush := t.bell.rush }) ∧
      (s.bell.state = .ready → s.bell.sounder ≠ .quiet → s.bell.queue.length < 4 →
        t.bell = { s.bell with queue := s.bell.queue ++ [{ pattern := e.pattern, origin := .scheduled }], marks := t.bell.marks
                               rush := t.bell.rush }) ∧
      (s.bell.state = .ready → 4 ≤ s.bell.queue.length →
        t.bell = { s.bell with marks := t.bell.marks, rush := t.bell.rush } ∧
          t.counter .ringDropped = min 65535 (s.counter .ringDropped + 1)) ∧
      (s.bell.state ≠ .ready →
        t.bell = { s.bell with marks := t.bell.marks, rush := t.bell.rush } ∧
          t.counter .bellSkipped = min 65535 (s.counter .bellSkipped + 1)) ∧
      (s.bell.state ≠ .ready ∨ s.bell.queue.length < 4 → t.counter .ringDropped = s.counter .ringDropped) ∧
      (s.bell.state = .ready → t.counter .bellSkipped = s.counter .bellSkipped) ∧
      (e.rush = 0 ∨ 0 ≤ absDiff s.clock.abs stop → t.bell.rush = s.bell.rush) ∧
      (0 < e.rush → absDiff s.clock.abs stop < 0 →
        (s.bell.rush = none → t.bell.rush = some stop) ∧
          ∀ old, s.bell.rush = some old → t.bell.rush = some (if absDiff old stop < 0 then stop else old))

/-- R123, R127: the own firing of an entry on the clock day of a clock value, between two states: its RING notice, its ring and its
rush window. -/
def firedOwn (s t : State) (c : Stamp) (i : Nat) : Prop :=
  (s.line.tx.length + s.line.reserved < 16 →
    queuedFrame s t (.ring { zone := s.settings.zone, index := i, week := c.week, day := dayOfWeek c.minute
                             minute := (s.settings.bell i).minute, pattern := (s.settings.bell i).pattern }) ∧
      t.counter .ringNoticeSkipped = s.counter .ringNoticeSkipped) ∧
    (16 ≤ s.line.tx.length + s.line.reserved →
      t.line = s.line ∧ t.counter .ringNoticeSkipped = min 65535 (s.counter .ringNoticeSkipped + 1)) ∧
    bellFollows s t c i

/-- R122, R124: the own firings of entries one after another, between two states: each begins from the line, the bell and the counters
that the one before it left, so that rings and notices join their queues in the order of the list. -/
def firedInTurn (c : Stamp) : List Nat → State → State → Prop
  | [], s, t =>
    t.line = s.line ∧ t.bell = { s.bell with marks := t.bell.marks } ∧
      ∀ k ∈ [Counter.ringNoticeSkipped, .ringDropped, .bellSkipped], t.counter k = s.counter k
  | i :: rest, s, t =>
    ∃ u, u = { s with line := u.line, bell := u.bell, counters := u.counters } ∧ firedOwn s u c i ∧ firedInTurn c rest u t

/-- R112, R113, R122 to R124, R127, R129: the counters that the roster and the Bell Controller can raise at an announcement. -/
def announcementCounters : List Counter :=
  [.uncollectedOverwritten, .entryMissed, .ringNoticeSkipped, .ringDropped, .bellSkipped]

/-- R111 to R113: the roster before and after a week change to a week: the slots of a record with another CURRENT tag move on one
place, and each PREVIOUS discarded with intervals credited and COLLECTED clear is counted. -/
def weekMoved (s t : State) (week : Nat) : Prop :=
  t.roster = s.roster.map (fun x =>
      if x.current.tag = week then x
      else { x with previous := { x.current with collected := false }, current := WeekSlot.emptyWith week }) ∧
    t.counter .uncollectedOverwritten =
      min 65535 (s.counter .uncollectedOverwritten +
        (s.roster.filter (fun x =>
          decide (x.current.tag ≠ week) && decide (0 < x.previous.intervals) && !x.previous.collected)).length)

/-- The rush window as it stands once an announcement with a new absolute minute has closed one whose end is reached (R137). -/
def rushAfter (rush : Option Nat) (new : Nat) : Option Nat :=
  match rush with
  | none => none
  | some stop => if 0 ≤ absDiff new stop then none else some stop

/-- R8, R111, R121, R124, R125, R137: a step of the clock to a value, between the state of a running station with no announcement left
to hand on and the state after the step; rush is what the step leaves of the rush window before an entry fires. -/
def stepped (s t : State) (new : Stamp) (rush : Option Nat) : Prop :=
  t.clock = { week := new.week, minute := new.minute, second := new.second, subMs := 0, isSet := true } ∧
    (s.clock.week ≠ new.week → weekMoved s t new.week) ∧
    (s.clock.week = new.week →
      t.roster = s.roster ∧ t.counter .uncollectedOverwritten = s.counter .uncollectedOverwritten) ∧
    (∀ (sameDay : Bool) (back : Nat → Int) (newly : Nat → Bool) (v : State),
      sameDay = decide (new.week = s.clock.week ∧ new.minute / 1440 = s.clock.minute / 1440) →
      (∀ i, back i = clockDiff new { week := new.week, minute := new.minute / 1440 * 1440 + (s.settings.bell i).minute,
                                     second := 0 }) →
      (∀ i, newly i =
        ((s.settings.bell i).applies (dayOfWeek new.minute) s.settings.zone && (!sameDay || !marked s i) &&
          (if s.clock.isSet && decide (0 ≤ clockDiff new s.clock.stamp) then
            decide (0 < absDiff (absMinute new.week (new.minute / 1440 * 1440 + (s.settings.bell i).minute)) s.clock.abs) &&
              decide (absDiff (absMinute new.week (new.minute / 1440 * 1440 + (s.settings.bell i).minute)) s.clock.abs ≤
                absDiff (absMinute new.week new.minute) s.clock.abs)
          else decide ((s.settings.bell i).minute = minuteOfDay new.minute)))) →
      v = { s with clock := t.clock, bell := { s.bell with rush := rush } } →
      (∀ i, i < 32 → (marked t i = true ↔ (marked s i = true ∧ sameDay = true) ∨ newly i = true)) ∧
        t.counter .entryMissed = (if (List.range 32).any (fun i => newly i && decide (120 < back i)) then
          min 65535 (s.counter .entryMissed + ((List.range 32).filter (fun i => newly i && decide (120 < back i))).length)
        else s.counter .entryMissed) ∧
        ((∀ i, i < 32 → newly i = true → 120 < back i) →
          t.line = v.line ∧ t.bell = { v.bell with marks := t.bell.marks } ∧
            ∀ k, k ≠ .uncollectedOverwritten → k ≠ .entryMissed → t.counter k = s.counter k) ∧
        (∀ i, i < 32 → newly i = true → back i ≤ 120 → (∀ j, j < 32 → j ≠ i → newly j = true → 120 < back j) →
          firedOwn v t new i) ∧
        ∀ order : List Nat,
          order.Pairwise (fun i j => (s.settings.bell i).minute < (s.settings.bell j).minute ∨
            ((s.settings.bell i).minute = (s.settings.bell j).minute ∧ i < j)) →
          (∀ i, i ∈ order ↔ i < 32 ∧ newly i = true ∧ back i ≤ 120) → firedInTurn new order v t) ∧
    ((∀ i, i < 32 → (s.settings.bell i).rush = 0) → t.bell.rush = rush) ∧ t.panel.row2 = clockRow true new.minute ∧
    t.panel.overlay = s.panel.overlay ∧ (s.bell.sounder ≠ .quiet → t.bell.timer = s.bell.timer) ∧
    (∀ k, k ∉ announcementCounters → t.counter k = s.counter k) ∧
    t = { s with clock := t.clock, roster := t.roster, bell := t.bell, line := t.line, panel := t.panel, counters := t.counters }

/-! ### The configuration image (R151, R170) -/

/-- R151, R170: the fields of the image whose values lie between two limits: offset, size, least and greatest value. The offsets of the
rates, and of the minute and the rush minutes of a bell entry, are the model's names of these items (DESIGN CHOICE, log entry 19). -/
def imageRows : List (Nat × Nat × Nat × Nat) :=
  [(0, 1, 0x31, 0x31), (1, 1, 1, 55), (2, 1, 1, 8), (4, 1, 0, 3), (5, 1, 0, 2), (6, 1, 0, 2), (7, 1, 0, 1), (8, 1, 0, 1),
   (9, 1, 0, 1), (10, 1, 2, 64), (11, 1, 1, 30), (12, 1, 1, 30), (13, 1, 5, 250), (14, 1, 0, 54), (17, 2, 0, 1439),
   (19, 2, 0, 1439), (433, 2, 0, 1023), (435, 2, 0, 1023)] ++
    (List.range 8).map (fun k => (21 + 2 * k, 2, 0, 50000)) ++
    ((List.range 12).map (fun k =>
      [(38 + 17 * k, 2, 0, 1439), (40 + 17 * k, 2, 1, 1440), (42 + 17 * k, 1, 0, 60), (43 + 17 * k, 1, 0, 15),
       (44 + 17 * k, 1, 0, 15), (45 + 17 * k, 1, 0, 60), (47 + 17 * k, 1, 0, 120), (48 + 17 * k, 2, 0, 1440),
       (50 + 17 * k, 2, 0, 960), (52 + 17 * k, 2, 0, 1440)])).flatten ++
    ((List.range 32).map (fun k => [(242 + 6 * k, 2, 0, 1439), (246 + 6 * k, 1, 0, 30)])).flatten

/-- R151, R170: the field at an offset of the image is out of its range: a field between two limits, the trim, a rounding unit, an
overtime limit below its regular limit, a bell pattern with a length it does not take, or an open limit not below the short limit. -/
def imageFieldBad (img : List Byte) (o : Nat) : Prop :=
  (∃ size low high, (o, size, low, high) ∈ imageRows ∧ (get img o size < low ∨ high < get img o size)) ∨
    (o = 15 ∧ (signed2 (get img 15 2) < -2047 ∨ 2047 < signed2 (get img 15 2))) ∨
    (∃ k, k < 12 ∧ o = 46 + 17 * k ∧ get img o 1 ∉ [1, 5, 6, 10, 15, 30]) ∨
    (∃ k, k < 12 ∧ o = 52 + 17 * k ∧ get img o 2 < get img (50 + 17 * k) 2) ∨
    (∃ k, k < 32 ∧ o = 245 + 6 * k ∧
      ((getByte img o).toNat / 64 = 3 ∧ ((getByte img o).toNat % 32 = 0 ∨ (getByte img o).toNat % 32 = 31) ∨
        (getByte img o).toNat / 64 ≠ 3 ∧ (getByte img o).toNat % 32 ≠ 0)) ∨
    (o = 433 ∧ get img 435 2 ≤ get img 433 2)

/-! ### Frames on the line (R20, R143, R144, R149) -/

/-- R20, R143, R144: a whole frame was tested, the first test that disposes of it deciding, and buffered when it passed all. -/
def frameTested (v t : State) (bytes : List Byte) : Prop :=
  ∀ covered source dest, covered = bytes.take (bytes.length - 2) → source = (getByte bytes 2).toNat →
    dest = (getByte bytes 3).toNat →
    (bytes.drop (bytes.length - 2) ≠ crcBytes covered → t = bump .frameBadCheck v) ∧
      (bytes.drop (bytes.length - 2) = crcBytes covered →
        (source = v.settings.station →
          t = bump .duplicateHeard { v with peers := { v.peers with duplicate := some 0 } }) ∧
        (source ≠ v.settings.station → dest ≠ 0 → dest ≠ v.settings.station → t = v) ∧
        (source ≠ v.settings.station → (dest = 0 ∨ dest = v.settings.station) →
          (getByte bytes 0 ∉ [0x01#8, 0x03#8, 0x07#8, 0x0F#8, 0x1F#8] → t = bump .frameMalformed v) ∧
          ∀ kind : FrameKind, getByte bytes 0 = kind.code →
            (lengthPermitted kind (covered.drop 4) = false → t = bump .frameMalformed v) ∧
            (lengthPermitted kind (covered.drop 4) = true →
              (kind = .reply → t = v) ∧
              (kind ≠ .reply → v.line.rx.length < 4 →
                t = { v with line := { v.line with
                      rx := v.line.rx ++ [{ kind := kind, source := source, destination := dest,
                                            body := covered.drop 4 }] } }) ∧
              (kind ≠ .reply → 4 ≤ v.line.rx.length → t = bump .receiveOverrun v))))

/-- R149, R162: the journal once a frame has left the transmit queue: the entry of a notice is marked. -/
def journalMarked (p : TxPayload) (mark : Announcement) (j : Journal) : Journal :=
  match p with
  | .punch n => { j with entries := j.entries.map (fun e => if e.isFor n then { e with announcement := mark } else e) }
  | .beacon => j
  | .ring _ => j
  | .reply _ => j

/-- R159: what a Restart becomes once a frame has left the transmit queue (log entry 13). -/
def restartAfter (p : TxPayload) (old : RestartState) : RestartState :=
  match p with
  | .reply r => if r.kind = 0x16#8 ∧ r.status = .done ∧ old = .pending then .replyLeft else old
  | .punch _ => old
  | .beacon => old
  | .ring _ => old

/-! ### Requests and their replies (R117, R118, R119, R152, R155 to R158, R163) -/

/-- A request kind: the command that takes it, its code, whether it may be broadcast, its parameter length. -/
structure RequestRow where
  command   : Instr
  code      : Byte
  broadcast : Bool
  length    : Nat
  deriving DecidableEq, Repr

/-- R151, R152, R155, R156: the sixteen request kinds. -/
def requestRows : List RequestRow :=
  [⟨.enrol, 0x01#8, true, 5⟩, ⟨.bar, 0x02#8, true, 3⟩, ⟨.unbar, 0x03#8, true, 3⟩, ⟨.withdraw, 0x04#8, true, 3⟩,
   ⟨.flag, 0x05#8, true, 4⟩, ⟨.setMessage, 0x06#8, true, 17⟩, ⟨.setClock, 0x07#8, true, 5⟩, ⟨.ringNow, 0x08#8, true, 1⟩,
   ⟨.weekCollected, 0x09#8, true, 2⟩, ⟨.remoteRelease, 0x10#8, false, 0⟩, ⟨.bellTest, 0x11#8, false, 0⟩,
   ⟨.readRecord, 0x12#8, false, 3⟩, ⟨.readTotals, 0x13#8, false, 5⟩, ⟨.readJournal, 0x14#8, false, 2⟩,
   ⟨.readStatus, 0x15#8, false, 2⟩, ⟨.restart, 0x16#8, false, 0⟩]

/-- R155, R156: a parameter of a request of a kind lies outside its range. -/
def paramsOutOfRange (code : Byte) (params : List Byte) : Prop :=
  (code ∈ [0x01#8, 0x02#8, 0x03#8, 0x04#8, 0x05#8, 0x12#8] ∧ (get params 0 3 = 0 ∨ 16777214 < get params 0 3)) ∨
    (code = 0x01#8 ∧ (12 < get params 3 1 ∨ 7 < get params 4 1)) ∨ (code = 0x05#8 ∧ 8 < get params 3 1) ∨
    (code = 0x06#8 ∧ (get params 0 1 = 0 ∨ 8 < get params 0 1)) ∨
    (code = 0x07#8 ∧ (10079 < get params 2 2 ∨ 59 < get params 4 1)) ∨
    (code = 0x08#8 ∧
      ((getByte params 0).toNat / 64 = 3 ∧ ((getByte params 0).toNat % 32 = 0 ∨ (getByte params 0).toNat % 32 = 31) ∨
        (getByte params 0).toNat / 64 ≠ 3 ∧ (getByte params 0).toNat % 32 ≠ 0)) ∨
    (code = 0x13#8 ∧ (1 < get params 0 1 ∨ 1 < get params 1 1)) ∨ (code = 0x15#8 ∧ 2 < get params 0 1)

/-- R119, R156: the 46 bytes of a record. -/
def recordData (x : Record) : List Byte :=
  put3 x.badge ++ put1 (match x.status with | .active => 0 | .barred => 1 | .leaving => 2) ++ put1 x.shiftCode ++
    put1 x.rateClass ++ put1 (if x.presence = .isIn then 1 else 0) ++
    (match x.lastPunch with
     | none => ones 7
     | some l => putStamp l.key.stamp ++ put1 l.key.station ++ put1 (if l.direction = .outward then 1 else 0)) ++
    (match x.interval with
     | none => ones 12
     | some i => putStamp i.key.stamp ++ put1 i.key.station ++ put1 i.code ++
         put1 (match i.kind with | .scheduled => 0 | .offDay => 1 | .noShift => 2) ++ putOptAbs i.start) ++
    (match x.acc with
     | none => ones 19
     | some a => put4 a.start ++ put1 a.code ++ put2 a.gross ++ put2 a.regular ++ put2 a.ot1 ++ put2 a.ot2 ++
         put1 (match a.breakState with | .none => 0 | .deducted => 1 | .taken => 2) ++
         (match a.lastOut with | none => ones 5 | some o => putStamp o)) ++
    (match x.message with | none => ones 1 | some m => put1 m)

/-- R117, R118, R156: a Read Totals reply for a slot, a part and a starting badge: from the first record at or above it, at most 4,
and all of the first one's tag, the reply ending before the first of another. -/
def totalsReported (roster : List Record) (slot part start : Nat) (data : List Byte) : Prop :=
  ∀ slotOf : Record → WeekSlot, (∀ x, slotOf x = if slot = 1 then x.previous else x.current) →
    ∃ l later flags,
      roster.filter (fun x => decide (start ≤ x.badge)) = l ++ later ∧ l.length ≤ 4 ∧ (l = [] → later = []) ∧
        (∀ x ∈ l, ∀ y, l.head? = some y → (slotOf x).tag = (slotOf y).tag) ∧
        (∀ y z, l.head? = some y → later.head? = some z → l.length = 4 ∨ (slotOf z).tag ≠ (slotOf y).tag) ∧
        flags < 16 ^ l.length ∧
        (∀ k x, l[k]? = some x → flags / 16 ^ k % 16 =
          (if (slotOf x).saturated then 1 else 0) + (if (slotOf x).unpairedSeen then 2 else 0) +
            (if (slotOf x).abandonedSeen then 4 else 0) + (if slot = 1 ∧ (slotOf x).collected = true then 8 else 0)) ∧
        data =
          put1 (slot + 2 * part + 16 * l.length) ++
            (match l with | [] => ones 2 | x :: _ => put2 (slotOf x).tag) ++
            put3 (match later with | [] => 0 | z :: _ => z.badge) ++ put2 flags ++
            (l.map (fun x =>
              if part = 1 then
                put3 x.badge ++ put2 (slotOf x).regular ++ put2 (slotOf x).ot1 ++ put2 (slotOf x).ot2 ++ put2 (slotOf x).night
              else put3 x.badge ++ put3 (slotOf x).credits ++ put4 (slotOf x).pay ++ put1 (slotOf x).intervals)).flatten

/-- R163: the outcomes in the order of their numbers. -/
def outcomeRows : List JournalOutcome :=
  [.admittedIn, .admittedOut, .passageNoPunch, .withdrawn, .exitButton, .remoteRelease, .forced, .heldOpen, .refused .badRead,
   .refused .wrongSite, .refused .gateBusy, .refused .waitTimeout, .refused .noTime, .refused .unknown, .refused .barred,
   .refused .leaving, .refused .passback]

/-- R163: the eight bytes of a journal entry. -/
def entryData (e : JournalEntry) : List Byte :=
  put2 e.stamp.minute ++ put1 e.stamp.second ++ (match e.badge with | none => ones 3 | some b => put3 b) ++
    put1 (outcomeRows.idxOf e.outcome + 32 * (match e.reader with | none => 0 | some .entry => 1 | some .exit => 2) +
      (if e.clockSet then 128 else 0)) ++
    put1 ((match e.announcement with | .none => 0 | .queued => 1 | .sent => 2 | .lost => 3) +
      (match e.flags with
       | none => 0
       | some f => (if f.softPassback then 16 else 0) + (if f.unpaired then 32 else 0) + (if f.crossed then 64 else 0) +
           (if f.delivered then 128 else 0)))

/-- R163: status and data of the reply to a Read Journal for a sequence: from its entry on at most 6, and all of the first one's
week; none where it is the next; NO RECORD beyond. -/
def journalReported (j : Journal) (seq : Nat) (status : ReplyStatus) (data : List Byte) : Prop :=
  ∀ oldest d, oldest = (match j.entries with | [] => j.next | e :: _ => e.sequence) →
    d = (seq + (65536 - oldest % 65536)) % 65536 →
    (j.entries.length < d → status = .noRecord ∧ data = put2 oldest ++ put2 j.next) ∧
      (d ≤ j.entries.length → status = .done ∧
        ∃ l later, j.entries.drop d = l ++ later ∧ l.length ≤ 6 ∧ (l = [] → later = []) ∧
          (∀ x ∈ l, ∀ y, l.head? = some y → x.stamp.week = y.stamp.week) ∧
          (∀ y z, l.head? = some y → later.head? = some z → l.length = 6 ∨ z.stamp.week ≠ y.stamp.week) ∧
          data =
            put2 seq ++ put1 l.length ++ (match l with | [] => ones 2 | e :: _ => put2 e.stamp.week) ++
              (l.map entryData).flatten)

/-- R157: the counters in the order of their indexes; index 18 belongs to none. -/
def counterRows : List (Option Counter) :=
  [some .beaconSkipped, some .beaconInvalid, some .peerTableFull, some .duplicateHeard, some .clockAdopted, some .enrolDropped,
   some .punchInvalid, some .punchUnknownBadge, some .punchLate, some .intervalAbandoned, some .resultDuplicate,
   some .resultStale, some .orphanCommit, some .repeatIgnored, some .decisionHeld, some .uncollectedOverwritten,
   some .collectedCredited, some .entryMissed, none, some .bellSkipped, some .ringDropped, some .ringNoticeSkipped,
   some .ringInvalid, some .ringIgnored, some .scheduleMismatch, some .openStroke, some .lineFramingError,
   some .frameTruncated, some .frameMalformed, some .frameBadCheck, some .receiveOverrun, some .collision,
   some .frameGiveUp, some .foreignSource, some .notBroadcast, some .requestInvalid, some .replyDropped,
   some .journalOverwritten]

/-! ### Values that fit their layouts (R151) -/

/-- R151: a stamp fits its five bytes. -/
def Stamp.fits (a : Stamp) : Prop := a.week < 65536 ∧ a.minute < 65536 ∧ a.second < 256

/-- R151: an interval key fits its six bytes. -/
def PunchKey.fits (k : PunchKey) : Prop := k.stamp.fits ∧ k.station < 256

/-- R151: an optional absolute minute fits its four bytes, of which all ones say that it is absent. -/
def optAbsFits (a : Option Nat) : Prop := ∀ n, a = some n → n < 4294967295

/-- R151: an OCCURRENCE part fits its six bytes. -/
def Occurrence.fits (o : Occurrence) : Prop := o.code < 256 ∧ optAbsFits o.start

/-- R151: a RESULT part fits its 34 bytes. -/
def PayResult.fits (r : PayResult) : Prop :=
  r.key.fits ∧ optAbsFits r.start ∧ r.effIn < 4294967296 ∧ r.effOut < 4294967296 ∧ r.regular < 65536 ∧ r.ot1 < 65536 ∧
    r.ot2 < 65536 ∧ r.night < 65536 ∧ r.breakMinutes < 65536 ∧ r.credits < 65536 ∧ r.pay < 16777216

/-- R5, R89: the distance of two absolute minutes, without its sign. -/
def minutesApart (a b : Nat) : Nat := (absDiff a b).natAbs

end Sys2Proof.Machine
end

