-- ==== Sys2Proof/Certificates/Slice0/Obligations.lean ====
section
/-! DEFINITION. The statements for the provers. In each, `taken`, `answered`, `refusedAt` and the like are the terms of Safety.lean;
`t = { s with … }` says that everything not named is unchanged. -/

open Sys2Proof Sys2Proof.Machine

/-! ### The queue of commands -/

/-- The command at the front of the queue is taken, and its effect is exec's on the state with the queue's rest. On an empty queue
the station idles: that clause is the model's choice (log entry 1). -/
def Obligations.StepTakesTheFrontCommand : Prop :=
  (∀ (c : Instr) (s : State), step { s with pending := c :: s.pending } = exec c s) ∧
    ∀ s : State, s.pending = [] → step s = .next s

/-- Every well-formed command completes; only a completed read whose image is not 512 bytes faults, and no command is refused. The
fault is the model's (log entry 19). -/
def Obligations.WellFormedCommandsComplete : Prop :=
  ∀ (c : Instr) (s : State),
    (c.wellFormed = true → ∃ t, exec c s = .next t) ∧
      (∀ f, exec c s = .fault f ↔ ∃ image, c = .configReadComplete image ∧ image.length ≠ 512) ∧
      ∀ r, exec c s ≠ .refused r

/-- A command acts on everything but the queue of commands. The queue is the model's, not the spec's: a command comes into it from
outside alone, and no step adds to it (log entry 20). -/
def Obligations.ExecKeepsTheQueue : Prop :=
  ∀ (c : Instr) (s t : State), exec c s = .next t → t.pending = s.pending

/-! ### Starts and supplies -/

/-- The state after reset is the one a cold start leaves (log entries 2 and 3), and every invariant that a step keeps holds in it. -/
def Obligations.ResetIsAColdStart : Prop :=
  State.reset.starts.cause = .cold ∧ State.reset.starts.run = .reading ∧ State.reset.starts.supply = .main ∧
    State.reset.counters = Vector.replicate 38 0 ∧ State.reset.roster = [] ∧ State.reset.journal = { entries := [], next := 0 } ∧
    State.reset.panel.messages = List.replicate 8 (List.replicate 16 0x20#8) ∧ State.reset.bell.state = .ready ∧
    State.reset.bell.marks = Vector.replicate 32 false ∧
    State.reset.clock = { week := 0, minute := 0, second := 0, subMs := 0, isSet := false } ∧
    State.reset.timebase.trim = 0 ∧ State.reset.timebase.elapsed = 0 ∧ State.reset.gate.cycle = .off ∧
    State.reset.waiting = [] ∧ State.reset.pendingPunch = none ∧ State.reset.peers.entries = [] ∧ State.reset.line.tx = [] ∧
    State.reset.line.rx = [] ∧ State.reset.bell.queue = [] ∧ State.reset.bell.rush = none ∧
    transmitQueueHolds State.reset ∧ rosterHolds State.reset ∧ journalHolds State.reset ∧ capacitiesHold State.reset ∧
    quietWithoutMain State.reset

/-- With no state retained, a rise of the main supply begins the count of its qualification, a millisecond tick advances it, a dip
sets it back, and COLD_START gives the state of a cold start once the supply has stood for 250 ms. A loss of all state leads there
from MAIN and from BACKUP; only the waiting commands stay. The values of a station without supply (those of the reset), the elapsed
base as its count, BACKUP_SUPPLY_LOST in MAIN as the loss of both supplies, a count begun in BACKUP that begins afresh, and
COLD_START's need of a station without state are the model's (log entry 3), and so is that it changes nothing before its moment (log
entry 6). -/
def Obligations.ColdStartFollowsTheLossOfAllState : Prop :=
  (∀ s : State, s.starts.supply = .lost →
      exec .mainSupplyDip s = .next { s with starts := { s.starts with mainUpSince := none } } ∧
        (s.starts.mainUpSince = none →
          exec .coldStart s = .next s ∧
            exec .mainSupplyRise s = .next { s with starts := { s.starts with mainUpSince := some s.now } }) ∧
        ∀ start, s.starts.mainUpSince = some start →
          (∀ pins, exec (.millisecondTick pins) s =
              .next { s with timebase := { s.timebase with elapsed := (s.timebase.elapsed + 1) % 4294967296 } }) ∧
            (elapsedSince s.now start < 250 → exec .coldStart s = .next s) ∧
            (250 ≤ elapsedSince s.now start → exec .coldStart s = .next { State.reset with pending := s.pending })) ∧
    (∀ s : State, s.starts.supply = .main →
      exec .backupSupplyLost s =
        .next { State.reset with starts := { State.reset.starts with supply := .lost }, pending := s.pending }) ∧
    ∀ s : State, s.starts.supply = .backup →
      exec .backupSupplyLost s =
        .next { State.reset with
                starts := { State.reset.starts with supply := .lost, mainUpSince := s.starts.mainUpSince.map (fun _ => 0) }
                pending := s.pending }

/-- The reset pin asserted in main power: the station stands with its outputs off and its line, channels, panel and read stopped,
and keeps its clock, roster, journal, counters, peer table and start cause. What stops at the assertion, and what only at the
release, is the model's reading (log entry 10). -/
def Obligations.ResetPinStopsTheStation : Prop :=
  ∀ s : State, s.starts.supply = .main → s.starts.pinHeld = false →
    ∃ t, exec .resetPinAsserted s = .next t ∧
      t.starts = { s.starts with pinHeld := true, waitSince := none } ∧
      t.gate.cycle = .off ∧ releaseOutput t = false ∧ alarmOutput t = false ∧ bellOutput t = false ∧ lineDrive t = none ∧
      panelLink t = none ∧ t.entryChannel = Channel.empty ∧ t.exitChannel = Channel.empty ∧ t.restart = .none ∧
      t = { s with starts := t.starts, gate := t.gate, entryChannel := t.entryChannel, exitChannel := t.exitChannel,
                   line := t.line, panel := t.panel, restart := .none } ∧
      t.line.tx = s.line.tx ∧ t.line.rx = s.line.rx ∧ t.line.reserved = s.line.reserved ∧ t.panel.messages = s.panel.messages

/-- What a warm start, by the reset pin's release or by a Restart whose reply has left, empties, clears and keeps. The journal is
kept, with the entries of queued notices marked LOST and the WITHDRAWN entry of a pending punch. The counters are cleared before the
pending punch is withdrawn, so the entry of a withdrawal into a full journal is counted (log entry 10). -/
def Obligations.WarmStartEmptiesAndKeeps : Prop :=
  ∀ s : State, s.starts.supply = .main → (s.starts.pinHeld = true ∨ s.restart = .replyLeft) →
    ∃ t, exec .warmStart s = .next t ∧
      t.starts = { s.starts with pinHeld := false, cause := .warm, run := .reading, failedTries := 0, waitSince := none,
                                 outcome := .notRead } ∧
      (∀ c, c ≠ .journalOverwritten → t.counter c = 0) ∧
      (s.pendingPunch = none ∨ s.journal.entries.length < 512 → t.counters = Vector.replicate 38 0) ∧
      (s.pendingPunch ≠ none → 512 ≤ s.journal.entries.length → t.counter .journalOverwritten = 1) ∧
      t.pendingPunch = none ∧ t.waiting = [] ∧ t.line.tx = [] ∧ t.line.rx = [] ∧
      t.line.attempt = none ∧ t.line.assembly = none ∧ t.peers = PeerTable.initial ∧ t.gate = Gate.initial ∧
      t.entryChannel = Channel.empty ∧ t.exitChannel = Channel.empty ∧ t.bell.queue = [] ∧ t.bell.sounder = .quiet ∧
      t.bell.current = none ∧ t.bell.rush = none ∧ t.panel.overlay = none ∧ t.restart = .none ∧
      t.roster = s.roster ∧ t.panel.messages = s.panel.messages ∧ t.clock = s.clock ∧ t.timebase = s.timebase ∧
      t.bell.marks = s.bell.marks ∧ t.bell.state = s.bell.state ∧ t.settings = s.settings ∧ t.announcements = s.announcements ∧
      journalStopped s t

/-- What each owner does at an entry into BACKUP, and what goes on through it. The gate's inputs are discarded and no longer
sampled, the cycle is OFF. The journal is kept, with the entries of queued notices marked LOST and the WITHDRAWN entry of a pending
punch. -/
def Obligations.BackupEntryActsOnEachOwner : Prop :=
  ∀ s : State, s.starts.supply = .main →
    ∃ t, exec .backupEntry s = .next t ∧
      t.starts = { s.starts with supply := .backup, mainUpSince := none, pinHeld := false, waitSince := none } ∧
      (∀ i : Input, i = { accepted := none, sample := none, count := 0, latched := [] } →
        t.gate = { cycle := .off, releaseTimer := none, holdTimer := none, door := i, button := i, freePassage := i
                   sampleFrom := none }) ∧
      stopped t ∧ releaseOutput t = false ∧ alarmOutput t = false ∧ bellOutput t = false ∧
      t.peers = { s.peers with beacon := none } ∧ t.bell.rush = s.bell.rush ∧ t.bell.marks = s.bell.marks ∧
      t.bell.state = s.bell.state ∧ t.clock = s.clock ∧ t.timebase = s.timebase ∧ t.roster = s.roster ∧
      t.settings = s.settings ∧ t.counters.toList.take 37 = s.counters.toList.take 37 ∧ t.announcements = s.announcements ∧
      t.panel.messages = s.panel.messages ∧ journalStopped s t ∧
      t.counter .journalOverwritten =
        (if s.pendingPunch.isSome && decide (512 ≤ s.journal.entries.length) then
          min 65535 (s.counter .journalOverwritten + 1)
        else s.counter .journalOverwritten)

/-- The qualification of a returning supply: a rise begins the count, a dip sets it back, and 250 ms of it give the POWER RETURN,
with the cause POWER RETURN, the counters kept and the volatile state cleared. The gate's inputs are established anew, sampled from
this moment on, and the panel begins afresh and is sent; a BACKUP entered in a read has the image read first. A command that comes
before its event leaves the state unchanged (log entry 6). -/
def Obligations.PowerReturnsWhenQualified : Prop :=
  (∀ s : State, s.starts.supply = .backup → s.starts.mainUpSince = none →
      exec .mainSupplyRise s = .next { s with starts := { s.starts with mainUpSince := some s.now } }) ∧
    (∀ s : State, s.starts.supply = .backup →
      exec .mainSupplyDip s = .next { s with starts := { s.starts with mainUpSince := none } }) ∧
    (∀ s start, s.starts.supply = .backup → s.starts.mainUpSince = some start → elapsedSince s.now start < 250 →
      exec .powerReturn s = .next s) ∧
    ∀ s start, s.starts.supply = .backup → s.starts.mainUpSince = some start → 250 ≤ elapsedSince s.now start →
      ∃ t, exec .powerReturn s = .next t ∧
        t.starts.supply = .main ∧ t.starts.cause = .powerReturn ∧ t.starts.mainUpSince = none ∧ t.starts.run = s.starts.run ∧
        t.peers.entries = [] ∧ t.peers.duplicate = none ∧ t.bell.rush = none ∧ t.panel.overlay = none ∧ t.pendingPunch = none ∧
        t.waiting = [] ∧ t.line.tx = [] ∧ t.line.rx = [] ∧ t.bell.queue = [] ∧ t.gate.cycle = .off ∧
        (∀ i : Input, i = { accepted := none, sample := none, count := 0, latched := [] } →
          t.gate = { cycle := .off, releaseTimer := none, holdTimer := none, door := i, button := i, freePassage := i
                     sampleFrom := if s.starts.run = .reading then none else some s.now }) ∧
        (s.starts.run = .reading →
          t.panel.overlay = none ∧ t.panel.mark1 = false ∧ t.panel.mark2 = false ∧ t.panel.transfer = none) ∧
        (s.starts.run = .configured → panelBegun s t (rowText s.settings.idleText)) ∧
        (s.starts.run = .unconfigured → panelBegun s t (rowText (textBytes "OUT OF SERVICE"))) ∧
        t.roster = s.roster ∧ t.clock = s.clock ∧ t.timebase = s.timebase ∧ t.settings = s.settings ∧
        t.bell.marks = s.bell.marks ∧ t.bell.state = s.bell.state ∧ t.panel.messages = s.panel.messages ∧
        (s.line.tx = [] → s.pendingPunch = none → t.counters = s.counters ∧ t.journal = s.journal) ∧
        (s.starts.run = .reading → t.starts.outcome = .notRead ∧ t.starts.failedTries = 0 ∧ t.peers.beacon = none) ∧
        (s.starts.run = .configured →
          t.peers.beacon = some { count := 0, target := s.settings.station % 16 } ∧ t.gate.sampleFrom = some s.now ∧
            t.line.idle = 0 ∧ t.line.backoff = 0 ∧ t.line.generator = BitVec.ofNat 16 s.settings.station) ∧
        (s.starts.run = .unconfigured → t.peers.beacon = none ∧ t.gate.sampleFrom = some s.now)

/-- A try of the configuration read that is not acknowledged is followed by a wait of 10 ms and another try; the fourth ends the
read with MEMORY ABSENT and leaves the station UNCONFIGURED, with the trim 0 and the tables as they stood. In a try the loader sends
0xA0 after a start, the offset 0 in two bytes, and 0xA1 after a repeated start, takes 512 bytes, acknowledging each but the last, and
ends with a stop; at a byte that the memory does not acknowledge it ends with a stop at once; while no try runs it does nothing. -/
def Obligations.ConfigurationTries : Prop :=
  (∀ (s : State) (refusal : Option BusRefusal),
    (readRuns s = true → s.starts.waitSince = none →
      loaderBus refusal s =
        (match refusal with
         | none => [.start, .write 0xA0#8, .write 0x00#8, .write 0x00#8, .repeatedStart, .write 0xA1#8] ++
             List.replicate 511 (.read true) ++ [.read false, .stop]
         | some .addressWrite => [.start, .write 0xA0#8, .stop]
         | some .offsetHigh => [.start, .write 0xA0#8, .write 0x00#8, .stop]
         | some .offsetLow => [.start, .write 0xA0#8, .write 0x00#8, .write 0x00#8, .stop]
         | some .addressRead => [.start, .write 0xA0#8, .write 0x00#8, .write 0x00#8, .repeatedStart, .write 0xA1#8, .stop])) ∧
      (readRuns s = false ∨ s.starts.waitSince.isSome = true → loaderBus refusal s = [])) ∧
  (∀ s : State, readRuns s = true → s.starts.waitSince = none → s.starts.failedTries < 3 →
      exec .tryNotAcknowledged s =
        .next { s with starts := { s.starts with failedTries := s.starts.failedTries + 1, waitSince := some s.now } }) ∧
    (∀ s start, readRuns s = true → s.starts.waitSince = some start → 10 ≤ elapsedSince s.now start →
      exec .configRetry s = .next { s with starts := { s.starts with waitSince := none } }) ∧
    ∀ s : State, readRuns s = true → s.starts.waitSince = none → 3 ≤ s.starts.failedTries →
      ∃ t, exec .tryNotAcknowledged s = .next t ∧ t.starts.run = .unconfigured ∧ t.starts.outcome = .memoryAbsent ∧
        t.timebase = { s.timebase with trim := 0 } ∧ t.settings = s.settings ∧ t.clock = s.clock ∧ t.announcements = [] ∧
        t.gate = { Gate.initial with sampleFrom := some s.now } ∧ lampOf t .entry = .steadyRed ∧ lampOf t .exit = .steadyRed ∧
        t.panel.row1 = rowText (textBytes "OUT OF SERVICE") ∧ t.panel.overlay = none ∧
        (s.announcements = [] → panelBegun s t (rowText (textBytes "OUT OF SERVICE")))

/-- A completed read of 512 bytes: a wrong sum, or a field out of its range, the first by offset, leaves the station UNCONFIGURED
with the tables as they stood; an accepted image gives every setting from its bytes, high byte first, and is the start point. The
panel begins afresh at either. The name of a field is the offset of its first byte; that a rate, and the minute and rush minutes of
a bell entry, are named by their own offsets is the model's choice (log entry 19). Bit 7 of a day mask is not read. -/
def Obligations.CompletedReadIsChecked : Prop :=
  ∀ (img : List Byte) (s : State), img.length = 512 → readRuns s = true → s.starts.waitSince = none →
    (∀ k, k < 512 → get img k 1 = (getByte img k).toNat ∧
      (k < 511 → get img k 2 = 256 * (getByte img k).toNat + (getByte img (k + 1)).toNat)) ∧
    ∃ t, exec (.configReadComplete img) s = .next t ∧ t.clock = s.clock ∧ t.announcements = [] ∧ t.starts.cause = s.starts.cause ∧
      t.journal = s.journal ∧ t.waiting = s.waiting ∧ t.pendingPunch = s.pendingPunch ∧ t.panel.overlay = none ∧
      (∀ text, text = (if t.starts.run = .configured then rowText t.settings.idleText
          else rowText (textBytes "OUT OF SERVICE")) →
        t.panel.row1 = text ∧ (s.announcements = [] → panelBegun s t text)) ∧
      (imageSum img = ((img.take 510).map BitVec.toNat).sum % 65536) ∧
      (imageSum img ≠ get img 510 2 →
        t.starts.outcome = .badSum ∧ t.starts.run = .unconfigured ∧ t.settings = s.settings ∧ t.timebase.trim = 0) ∧
      (imageSum img = get img 510 2 → ∀ a b i, fieldChecks img = a ++ (i, false) :: b → (∀ c ∈ a, c.2 = true) →
        t.starts.outcome = .badField i ∧ t.starts.run = .unconfigured ∧ t.settings = s.settings ∧ t.timebase.trim = 0) ∧
      (imageSum img = get img 510 2 → ∀ i, imageFieldBad img i → (∀ j, j < i → ¬imageFieldBad img j) →
        t.starts.outcome = .badField i ∧ t.starts.run = .unconfigured ∧ t.settings = s.settings ∧ t.timebase.trim = 0) ∧
      (imageSum img = get img 510 2 → (∀ c ∈ fieldChecks img, c.2 = true) ∨ (∀ i, ¬imageFieldBad img i) →
        t.starts.outcome = .accepted ∧ t.starts.run = .configured ∧ t.settings = settingsOf img ∧
          t.timebase = { s.timebase with trim := signed2 (get img 15 2) } ∧
          t.peers.beacon = some { count := 0, target := get img 1 1 % 16 } ∧
          t.gate = { Gate.initial with sampleFrom := some s.now } ∧ t.entryChannel = Channel.empty ∧
          t.exitChannel = Channel.empty ∧ t.line.idle = 0 ∧
          t.settings =
            { station := get img 1 1
              zone := get img 2 1
              siteCode := get img 3 1
              divisor := [23, 11, 7, 3].getD (get img 4 1) 3
              gateRole := [GateRole.both, .entryOnly, .exitOnly].getD (get img 5 1) .both
              passback := [Passback.hard, .soft, .off].getD (get img 6 1) .hard
              degrade := decide (get img 7 1 = 1)
              confirm := decide (get img 8 1 = 1)
              openLow := decide (get img 9 1 = 1)
              q := get img 10 1
              releaseTime := get img 11 1
              rushTime := get img 12 1
              holdLimit := get img 13 1
              expectedPeers := get img 14 1
              nightStart := get img 17 2
              nightEnd := get img 19 2
              rates := (List.range 8).map (fun k => get img (21 + 2 * k) 2)
              shifts := (List.range 12).map (fun k =>
                { days := getByte img (37 + 17 * k) &&& 0x7F#8, start := get img (38 + 17 * k) 2
                  length := get img (40 + 17 * k) 2, earlyIn := get img (42 + 17 * k) 1, lateGrace := get img (43 + 17 * k) 1
                  earlyLeave := get img (44 + 17 * k) 1, lateOut := get img (45 + 17 * k) 1, unit := get img (46 + 17 * k) 1
                  breakLength := get img (47 + 17 * k) 1, threshold := get img (48 + 17 * k) 2
                  limit := get img (50 + 17 * k) 2, limit2 := get img (52 + 17 * k) 2 })
              bells := (List.range 32).map (fun k =>
                { days := getByte img (241 + 6 * k) &&& 0x7F#8, minute := get img (242 + 6 * k) 2
                  zones := getByte img (244 + 6 * k)
                  pattern := [Pattern.long, .double, .triple].getD ((getByte img (245 + 6 * k)).toNat / 64)
                    (.continuous ((getByte img (245 + 6 * k)).toNat % 32))
                  rush := get img (246 + 6 * k) 1 })
              openLimit := get img 433 2
              shortLimit := get img 435 2
              idleText := (List.range 16).map (fun k => getByte img (437 + k))
              sum := imageSum img })

/-! ### The timebase, the clock and the peers -/

/-- A millisecond tick advances the elapsed base and the site clock by one millisecond, whether CLOCK SET is true or false; the
thousandth of a second makes the trim in use that of the next one and a one-second tick due; a carry of the second from 59 to 0
announces the new minute. Every second millisecond the inputs in use are sampled, and from 50 ms into a stroke to its end the bell
current is. That announcements and one-second ticks wait (log entry 7), the phase of the input samples (log entry 8) and the first
and last sample of a stroke (log entry 15) are the model's. -/
def Obligations.MillisecondTickCounts : Prop :=
  ∀ (pins : Pins) (s : State), powered s = true → s.clock.inRange →
    ∃ t, exec (.millisecondTick pins) s = .next t ∧
      t.timebase.elapsed = (s.timebase.elapsed + 1) % 4294967296 ∧ t.timebase.trim = s.timebase.trim ∧
      (s.timebase.msInSecond < 999 →
        t.timebase = { s.timebase with elapsed := t.timebase.elapsed, msInSecond := s.timebase.msInSecond + 1 }) ∧
      (999 ≤ s.timebase.msInSecond →
        t.timebase = { s.timebase with elapsed := t.timebase.elapsed, msInSecond := 0, secondTrim := s.timebase.trim,
                                       secondTicksDue := s.timebase.secondTicksDue + 1 }) ∧
      t.clock.millis = (s.clock.millis + 1) % 39636172800000 ∧ t.clock.inRange ∧ t.clock.isSet = s.clock.isSet ∧
      t.announcements =
        s.announcements ++
          (if t.clock.millis % 60000 = 0 then
            [{ week := t.clock.week, minute := t.clock.minute, dayChanged := decide (t.clock.minute % 1440 = 0),
               weekChanged := decide (t.clock.minute = 0) }]
          else []) ∧
      t.gate = { s.gate with door := t.gate.door, button := t.gate.button, freePassage := t.gate.freePassage } ∧
      (s.gate.sampleFrom = none ∨ (running s = false ∧ unconfiguredMain s = false) → t.gate = s.gate) ∧
      (∀ start, s.gate.sampleFrom = some start →
        (elapsedSince t.now start % 2 = 1 → t.gate = s.gate) ∧
        (elapsedSince t.now start % 2 = 0 → running s = true → ∀ early, early = decide (s.gate.cycle = .off) →
          t.gate.button = s.gate.button.sampled s.settings.q pins.button pins.button early ∧
            t.gate.freePassage = s.gate.freePassage.sampled s.settings.q pins.freePassage true early ∧
            (s.settings.confirm = true →
              t.gate.door = s.gate.door.sampled s.settings.q (if s.settings.openLow then !pins.door else pins.door) true early) ∧
            (s.settings.confirm = false → t.gate.door = s.gate.door)) ∧
        (elapsedSince t.now start % 2 = 0 → unconfiguredMain s = true →
          t.gate = { s.gate with freePassage := s.gate.freePassage.sampled 16 pins.freePassage true false })) ∧
      t.bell = { s.bell with sum := t.bell.sum, number := t.bell.number, aboveRun := t.bell.aboveRun,
                             highest := t.bell.highest } ∧
      (running s = false ∨ s.bell.sounder ≠ .striking ∨ 3 ≤ s.bell.aboveRun → t.bell = s.bell) ∧
      (∀ timer, s.bell.timer = some timer →
        (elapsedSince t.now timer.start < 50 ∨ timer.duration ≤ elapsedSince t.now timer.start → t.bell = s.bell) ∧
        (running s = true → s.bell.sounder = .striking → s.bell.aboveRun < 3 → 50 ≤ elapsedSince t.now timer.start →
            elapsedSince t.now timer.start < timer.duration →
          t.bell = { s.bell with
            sum := s.bell.sum + pins.sense.toNat, number := s.bell.number + 1
            aboveRun := if s.settings.shortLimit < pins.sense.toNat then s.bell.aboveRun + 1 else 0
            highest := max s.bell.highest pins.sense.toNat })) ∧
      t = { s with timebase := t.timebase, clock := t.clock, announcements := t.announcements, gate := t.gate, bell := t.bell }

/-- An input's level is accepted after Q consecutive samples that differ from the accepted one, with one event latched for a change
that has an event; fewer samples change nothing but the count, and a sample equal to the accepted level sets the count to 0. An input
with no accepted level yet takes its first from Q consecutive equal samples, without an event. -/
def Obligations.InputsAreQualified : Prop :=
  (∀ (i : Input) (q n : Nat) (a latches early : Bool), i.accepted = some a → i.count = 0 → 1 ≤ q →
    (n < q → (List.replicate n (!a)).foldl (fun j l => j.sampled q l latches early) i = { i with count := n }) ∧
      (List.replicate q (!a)).foldl (fun j l => j.sampled q l latches early) i =
        { i with accepted := some (!a),
                 latched := if latches then i.latched ++ [{ level := !a, early := early }] else i.latched } ∧
      ∀ k, ({ i with count := k } : Input).sampled q a latches early = i) ∧
    ∀ (i : Input) (q n : Nat) (level latches early : Bool), i.accepted = none → i.sample ≠ some level → 1 ≤ q →
      (1 ≤ n → n < q →
        (List.replicate n level).foldl (fun j l => j.sampled q l latches early) i =
          { i with sample := some level, count := n }) ∧
        (List.replicate q level).foldl (fun j l => j.sampled q l latches early) i =
          { i with accepted := some level, sample := none, count := 0 }

/-- An ADVANCE announcement reaches the roster, the Bell Controller and, while it runs, the panel: a week change moves the slots of
every record with another CURRENT tag and counts the uncollected weeks it discards, a day change clears the fired marks, a rush
window whose end is reached closes, and row 2 shows the new time. The entries due at the new minute with their marks clear are
marked; a configured station in main power fires them (each rings, sends its RING notice and opens its rush window) one after
another in ascending index order, any other counts them ENTRY MISSED. The announcement waits for its command (log entry 7), and a
station whose reset pin is held counts its entries ENTRY MISSED (log entry 11). To hand on all that fell due is to hand on the
oldest first. -/
def Obligations.AdvanceIsHandedOn : Prop :=
  (∀ s : State, s.announcements = [] → handAnnouncements s = s) ∧
    ∀ (s : State) (a : Advance) (rest : List Advance) (c : Stamp) (newly : Nat → Bool),
    powered s = true → announcementsHeld s = false → s.announcements = a :: rest →
    c = { week := a.week, minute := a.minute, second := 0 } →
    (∀ i, newly i = (dueAt s c i && (a.dayChanged || !marked s i))) →
    ∃ t, exec .advance s = .next t ∧ t.announcements = rest ∧ handAnnouncements s = handAnnouncements t ∧
      (a.weekChanged = true → weekMoved s t a.week) ∧
      (a.weekChanged = false → t.roster = s.roster ∧ t.counter .uncollectedOverwritten = s.counter .uncollectedOverwritten) ∧
      (∀ i, i < 32 → (marked t i = true ↔ (marked s i = true ∧ a.dayChanged = false) ∨ dueAt s c i = true)) ∧
      (panelRuns s = true → t.panel.row2 = clockRow s.clock.isSet a.minute) ∧ (panelRuns s = false → t.panel = s.panel) ∧
      (running s = false ∨ (∀ i, i < 32 → newly i = false) →
        t.line = s.line ∧ t.bell = { s.bell with marks := t.bell.marks, rush := rushAfter s.bell.rush (absMinute a.week a.minute) } ∧
          ∀ k, k ≠ .uncollectedOverwritten → k ≠ .entryMissed → t.counter k = s.counter k) ∧
      (running s = false →
        t.counter .entryMissed = (if (List.range 32).any newly then
          min 65535 (s.counter .entryMissed + ((List.range 32).filter newly).length) else s.counter .entryMissed)) ∧
      (running s = true → t.counter .entryMissed = s.counter .entryMissed) ∧
      (running s = true → ∀ i, i < 32 → newly i = true → (∀ j, j < 32 → j ≠ i → newly j = false) →
        firedOwn { s with bell := { s.bell with rush := rushAfter s.bell.rush (absMinute a.week a.minute) } } t c i) ∧
      (running s = true →
        firedInTurn c ((List.range 32).filter newly)
          { s with bell := { s.bell with rush := rushAfter s.bell.rush (absMinute a.week a.minute) } } t) ∧
      (∀ k, k ∉ announcementCounters → t.counter k = s.counter k) ∧
      t = { s with announcements := rest, roster := t.roster, bell := t.bell, line := t.line, panel := t.panel,
                   counters := t.counters }

/-- A valid Set Clock steps the clock to its value and sets CLOCK SET, leaves every elapsed timer as it was, moves the week slots
when the week changes, closes an open rush window and is answered DONE when addressed. At a forward step the entries of the new day
that were passed with their marks clear are marked: one at most 120 seconds back fires late, on the new day and its own minute, an
older one is counted ENTRY MISSED. At a backward or first step the entries of the new minute fire. Those that fire do so one after
another, in rising order of time and, for one time, of index. Announcements that fell due are handed on first (log entry 7). -/
def Obligations.SetClockStepsTheClock : Prop :=
  ∀ (s : State) (office dest : Nat) (tag : Byte) (new : Stamp) (rest : List RxFrame),
    requestReady s office dest 0x07#8 tag (putStamp new) rest → new.week < 65536 → new.minute < 10080 → new.second < 60 →
    ∃ v u, exec .setClock s = .next (answered office dest 0x07#8 tag .done [] u) ∧
      u = stepClock new .setClock (taken s rest) ∧ v = handAnnouncements (taken s rest) ∧ stepped v u new none ∧
      (s.announcements = [] → v = taken s rest) ∧ v.clock = s.clock ∧ v.announcements = [] ∧
      u.clock = { week := new.week, minute := new.minute, second := new.second, subMs := 0, isSet := true } ∧
      u.announcements = [] ∧ u.panel.row2 = clockRow true new.minute ∧ u.counter .clockAdopted = s.counter .clockAdopted ∧
      u.panel.overlay = s.panel.overlay ∧ (s.bell.sounder ≠ .quiet → u.bell.timer = s.bell.timer) ∧
      ((∀ i, i < 32 → (s.settings.bell i).rush = 0) → u.bell.rush = none) ∧
      u = { s with clock := u.clock, announcements := [], roster := u.roster, bell := u.bell, line := u.line, panel := u.panel,
                   counters := u.counters }

/-- A beacon. One that fails its checks (a role that its source may have, the role's zone, a clock in its ranges) is counted and
nothing else. Any other is taken by the peer table and by the clock comparison: what it does by the beacon's CLOCK SET, the own
CLOCK SET and the difference d. A clock adopted is a step, whose entries fire as those of a Set Clock do, and which leaves open a
rush window whose end it does not reach; announcements that fell due are handed on first (log entry 7). LAGGING is marked in the
sender's entry. -/
def Obligations.BeaconMovesTheClockForward : Prop :=
  ∀ (s : State) (f : RxFrame) (rest : List RxFrame) (b : BeaconBody),
    running s = true → s.line.rx = f :: rest → f.kind = .beacon → getBeacon f.body = b →
    ((10080 ≤ b.stamp.minute ∨ 60 ≤ b.stamp.second ∨
        (¬(b.roleCode = 1 ∧ 1 ≤ f.source ∧ f.source ≤ 55 ∧ 1 ≤ b.zone ∧ b.zone ≤ 8) ∧
          ¬(b.roleCode = 2 ∧ 56 ≤ f.source ∧ f.source ≤ 63 ∧ b.zone = 0))) →
      exec .hearBeacon s = .next (bump .beaconInvalid (taken s rest))) ∧
    ∀ (role : Role) (d : Int) (p : Peer), b.stamp.minute < 10080 → b.stamp.second < 60 →
      (role = .gate ∧ b.roleCode = 1 ∧ 1 ≤ f.source ∧ f.source ≤ 55 ∧ 1 ≤ b.zone ∧ b.zone ≤ 8) ∨
        (role = .office ∧ b.roleCode = 2 ∧ 56 ≤ f.source ∧ f.source ≤ 63 ∧ b.zone = 0) →
      d = clockDiff b.stamp s.clock.stamp →
      p = { station := f.source, role := role, zone := b.zone, age := 0, state := .live, offset := max (-127) (min 127 d),
            lagging := b.flags.clockSet && s.clock.isSet && decide (d ≤ -2), flags := b.flags } →
      ∃ u v t, exec .hearBeacon s = .next t ∧ u = tablePeer p (taken s rest) ∧ v = handAnnouncements u ∧
        (s.announcements = [] → v = u) ∧ t.peers = u.peers ∧
        (b.flags.clockSet = true → (s.clock.isSet = false ∨ 2 ≤ d) →
          t.clock = { week := b.stamp.week, minute := b.stamp.minute, second := b.stamp.second, subMs := 0, isSet := true } ∧
            t.counter .clockAdopted = min 65535 (s.counter .clockAdopted + 1) ∧
            ∃ w, t = bump .clockAdopted w ∧ w = stepClock b.stamp .adoption u ∧
              stepped v w b.stamp (rushAfter v.bell.rush (absMinute b.stamp.week b.stamp.minute))) ∧
        (b.flags.clockSet = false ∨ (s.clock.isSet = true ∧ d ≤ 1) → t = u) ∧
        (∀ q ∈ t.peers.entries, q.station = f.source → q = p) ∧
        t = { s with clock := t.clock, announcements := t.announcements, peers := t.peers, roster := t.roster, bell := t.bell,
                     line := t.line, panel := t.panel, counters := t.counters }

/-- A station that has an entry in the peer table has it replaced in its place. One with no entry is entered at the end; in a full
table the SILENT entry with the greatest age, the one nearest the head among equals, makes room, and a table full of LIVE entries
stays as it is and is counted. -/
def Obligations.PeerTableMakesRoom : Prop :=
  (∀ (p : Peer) (s : State), (∃ q ∈ s.peers.entries, q.station = p.station) →
    tablePeer p s =
      { s with peers := { s.peers with
          entries := s.peers.entries.map (fun q => if q.station = p.station then p else q) } }) ∧
    ∀ (p : Peer) (s : State), (∀ q ∈ s.peers.entries, q.station ≠ p.station) →
      (s.peers.entries.length < 32 → tablePeer p s = { s with peers := { s.peers with entries := s.peers.entries ++ [p] } }) ∧
        (∀ a q b, s.peers.entries = a ++ q :: b → 32 ≤ s.peers.entries.length → q.state = .silent →
          (∀ r ∈ a, r.state = .silent → r.age < q.age) → (∀ r ∈ b, r.state = .silent → r.age ≤ q.age) →
          tablePeer p s = { s with peers := { s.peers with entries := a ++ b ++ [p] } }) ∧
        (32 ≤ s.peers.entries.length → (∀ q ∈ s.peers.entries, q.state = .live) → tablePeer p s = bump .peerTableFull s)

/-- An elapsed second tick advances every age, held at 65,535, turns an entry SILENT whose age reaches 48, and advances the beacon
period and the duplicate number hold; the hold ends after 60 elapsed seconds. The count of ticks due is the model's (log entry 7),
and a hold not yet over leaves the state unchanged (log entry 6). -/
def Obligations.ElapsedSecondsAge : Prop :=
  (∀ (s : State) (k : Nat), powered s = true → s.timebase.secondTicksDue = k + 1 →
      exec .elapsedSecondTick s =
        .next { s with
          timebase := { s.timebase with secondTicksDue := k }
          peers :=
            { entries := s.peers.entries.map (fun p =>
                { p with age := min 65535 (p.age + 1), state := if min 65535 (p.age + 1) = 48 then .silent else p.state })
              beacon := s.peers.beacon.map (fun b => { b with count := b.count + 1 })
              duplicate := s.peers.duplicate.map (fun n => n + 1) } }) ∧
    ∀ (s : State) (n : Nat), powered s = true → s.peers.duplicate = some n →
      (60 ≤ n → exec .duplicateHoldExpiry s = .next { s with peers := { s.peers with duplicate := none } }) ∧
        (n < 60 → exec .duplicateHoldExpiry s = .next s)

/-- A beacon that falls due is queued, or skipped and counted when an earlier one is still queued or the queue has no free
unreserved slot; in each case the next falls due one period later. -/
def Obligations.BeaconFallsDue : Prop :=
  ∀ (s : State) (b : BeaconTimer), running s = true → s.peers.beacon = some b → b.target ≤ b.count →
    ∃ t, exec .beaconDue s = .next t ∧ t.peers = { s.peers with beacon := some { count := b.count - b.target, target := 16 } } ∧
      ((∃ f ∈ s.line.tx, f.payload = .beacon) ∨ 16 ≤ s.line.tx.length + s.line.reserved →
        t.line = s.line ∧ t.counter .beaconSkipped = min 65535 (s.counter .beaconSkipped + 1) ∧
          t = { s with peers := t.peers, counters := t.counters }) ∧
      ((∀ f ∈ s.line.tx, f.payload ≠ .beacon) → s.line.tx.length + s.line.reserved < 16 →
        queuedFrame s t .beacon ∧ t = { s with peers := t.peers, line := t.line })

/-! ### The roster and the week slots -/

/-- An Enrol inserts a new record, replaces the shift code and rate class of one that is there, or, with 1,024 records, is answered
FULL or counted. -/
def Obligations.EnrolInsertsOrUpdates : Prop :=
  ∀ (s : State) (office dest : Nat) (tag : Byte) (badge code cls : Nat) (rest : List RxFrame),
    requestReady s office dest 0x01#8 tag (put3 badge ++ put1 code ++ put1 cls) rest → 1 ≤ badge → badge ≤ 16777214 →
    code ≤ 12 → cls ≤ 7 →
    (∀ x, s.record badge = some x →
      exec .enrol s = .next (answered office dest 0x01#8 tag .done []
        { taken s rest with roster := putRecord { x with shiftCode := code, rateClass := cls } s.roster })) ∧
      (s.record badge = none → s.roster.length < 1024 →
        exec .enrol s = .next (answered office dest 0x01#8 tag .done []
          { taken s rest with roster := (insertRecord
              { badge := badge, status := .active, shiftCode := code, rateClass := cls, presence := .isOut, lastPunch := none,
                interval := none, acc := none, credited := [], message := none, current := WeekSlot.emptyWith s.clock.week,
                previous := WeekSlot.emptyWith ((s.clock.week + 65535) % 65536) } s.roster) })) ∧
      (s.record badge = none → 1024 ≤ s.roster.length → dest ≠ 0 →
        exec .enrol s = .next (answered office dest 0x01#8 tag .full [] (taken s rest))) ∧
      (s.record badge = none → 1024 ≤ s.roster.length → dest = 0 → exec .enrol s = .next (bump .enrolDropped (taken s rest)))

/-- Bar, Unbar, Withdraw and Flag: the status or the message index each sets, by the record's status and presence, the removal of a
record that is OUT, and the statuses returned. Nothing else of the record changes. -/
def Obligations.OfficeChangesARecord : Prop :=
  ∀ (s : State) (office dest : Nat) (tag : Byte) (badge : Nat) (rest : List RxFrame), 1 ≤ badge → badge ≤ 16777214 →
    (requestReady s office dest 0x02#8 tag (put3 badge) rest →
      (s.record badge = none → exec .bar s = .next (answered office dest 0x02#8 tag .noRecord [] (taken s rest))) ∧
        ∀ x, s.record badge = some x →
          (x.status = .active → exec .bar s = .next (answered office dest 0x02#8 tag .done []
            { taken s rest with roster := putRecord { x with status := .barred } s.roster })) ∧
          (x.status = .barred → exec .bar s = .next (answered office dest 0x02#8 tag .done [] (taken s rest))) ∧
          (x.status = .leaving → exec .bar s = .next (answered office dest 0x02#8 tag .wrongState [] (taken s rest)))) ∧
    (requestReady s office dest 0x03#8 tag (put3 badge) rest →
      (s.record badge = none → exec .unbar s = .next (answered office dest 0x03#8 tag .noRecord [] (taken s rest))) ∧
        ∀ x, s.record badge = some x →
          (x.status = .barred → exec .unbar s = .next (answered office dest 0x03#8 tag .done []
            { taken s rest with roster := putRecord { x with status := .active } s.roster })) ∧
          (x.status = .active → exec .unbar s = .next (answered office dest 0x03#8 tag .done [] (taken s rest))) ∧
          (x.status = .leaving → exec .unbar s = .next (answered office dest 0x03#8 tag .wrongState [] (taken s rest)))) ∧
    (requestReady s office dest 0x04#8 tag (put3 badge) rest →
      (s.record badge = none → exec .withdraw s = .next (answered office dest 0x04#8 tag .noRecord [] (taken s rest))) ∧
        ∀ x, s.record badge = some x →
          (x.presence = .isOut → exec .withdraw s = .next (answered office dest 0x04#8 tag .done []
            { taken s rest with roster := s.roster.filter (fun y => decide (y.badge ≠ badge)) })) ∧
          (x.presence = .isIn → exec .withdraw s = .next (answered office dest 0x04#8 tag .done []
            { taken s rest with roster := putRecord { x with status := .leaving } s.roster }))) ∧
    ∀ index, index ≤ 8 → requestReady s office dest 0x05#8 tag (put3 badge ++ put1 index) rest →
      (s.record badge = none → exec .flag s = .next (answered office dest 0x05#8 tag .noRecord [] (taken s rest))) ∧
        ∀ x, s.record badge = some x →
          exec .flag s = .next (answered office dest 0x05#8 tag .done []
            { taken s rest with
              roster := putRecord { x with message := if index = 0 then none else some index } s.roster })

/-- A Week Collected sets COLLECTED on every PREVIOUS slot tagged with its week, changes no other slot, and is answered DONE when one
matched and NO RECORD when none did. -/
def Obligations.WeekCollectedMarksPreviousSlots : Prop :=
  ∀ (s : State) (office dest : Nat) (tag : Byte) (week : Nat) (rest : List RxFrame), week < 65536 →
    requestReady s office dest 0x09#8 tag (put2 week) rest →
    ∃ u, u = { taken s rest with roster := s.roster.map (fun x =>
          if x.previous.tag = week then { x with previous := { x.previous with collected := true } } else x) } ∧
      ((∃ x ∈ s.roster, x.previous.tag = week) → exec .weekCollected s = .next (answered office dest 0x09#8 tag .done [] u)) ∧
      ((∀ x ∈ s.roster, x.previous.tag ≠ week) → exec .weekCollected s = .next (answered office dest 0x09#8 tag .noRecord [] u))

/-- A heard PUNCH notice for a badge with a record: current or LATE by its order key, what each does to presence, open interval,
accumulator and last punch; its RESULT part, credited once to the slot of its week and to the accumulator of its occurrence, or
found among the credited keys and counted; and its flags. A LEAVING record that is OUT then is removed. The gross minutes of a sum
below 0 are left free (log entry 4). -/
def Obligations.HeardPunchIsApplied : Prop :=
  ∀ (s : State) (f : RxFrame) (rest : List RxFrame) (n : PunchNotice) (x : Record) (key : PunchKey) (current : Bool) (c : WeekSlot),
    running s = true → s.line.rx = f :: rest → f.kind = .punch → getPunch f.body = some n → n.valid f.source = true →
    s.record n.badge = some x → key = { stamp := n.stamp, station := f.source } →
    (current = true ↔ x.lastPunch = none ∨
      ∃ l, x.lastPunch = some l ∧
        (0 < clockDiff n.stamp l.key.stamp ∨ (clockDiff n.stamp l.key.stamp = 0 ∧ l.key.station < f.source))) →
    c = { x.current with
          abandonedSeen := x.current.abandonedSeen || (current && n.direction == .inward && x.interval.isSome)
          unpairedSeen := x.current.unpairedSeen || (n.direction == .outward && n.flags.unpaired) } →
    ∃ t y, exec .hearPunch s = .next t ∧
      t = { taken s rest with roster := t.roster, counters := t.counters } ∧ settledAs y s.roster t.roster ∧
      y.badge = x.badge ∧ y.status = x.status ∧ y.shiftCode = x.shiftCode ∧ y.rateClass = x.rateClass ∧
      (current = true →
        y.lastPunch = some { key := key, direction := n.direction } ∧ t.counter .punchLate = s.counter .punchLate ∧
          (∀ o, n.direction = .inward → n.occurrence = some o →
            y.presence = .isIn ∧ y.interval = some { key := key, code := o.code, kind := o.kind, start := o.start } ∧
              accumulatorOpened s.settings n.stamp o x.acc y.acc) ∧
          (n.direction = .outward → y.presence = .isOut ∧ y.interval = none)) ∧
      (current = false →
        y.presence = x.presence ∧ y.interval = x.interval ∧ y.lastPunch = x.lastPunch ∧
          t.counter .punchLate = min 65535 (s.counter .punchLate + 1)) ∧
      t.counter .intervalAbandoned =
        (if current && n.direction == .inward && x.interval.isSome then min 65535 (s.counter .intervalAbandoned + 1)
        else s.counter .intervalAbandoned) ∧
      (n.result = none → y.credited = x.credited ∧ y.current = c ∧ y.previous = x.previous ∧
        (current = false ∨ n.direction = .outward → y.acc = x.acc)) ∧
      (∀ r, n.result = some r →
        (r.key ∈ x.credited →
          y.credited = x.credited ∧ y.current = c ∧ y.previous = x.previous ∧ y.acc = x.acc ∧
            t.counter .resultDuplicate = min 65535 (s.counter .resultDuplicate + 1) ∧
            t.counter .resultStale = s.counter .resultStale ∧ t.counter .collectedCredited = s.counter .collectedCredited) ∧
          (r.key ∉ x.credited →
            y.credited = (r.key :: x.credited).take 3 ∧ t.counter .resultDuplicate = s.counter .resultDuplicate ∧
              slotsCredited r c x.previous y.current y.previous ∧ creditCounted r x s t ∧
              (∀ a, x.acc = some a → r.start = some a.start → ∃ b, y.acc = some b ∧ heardAdded r n.stamp a b) ∧
              ((∀ a, x.acc = some a → r.start ≠ some a.start) → y.acc = x.acc))) ∧
      y.message = (if n.flags.delivered then none else x.message)

/-- A PUNCH notice that fails its checks, or that names a badge with no record, is discarded and counted. The checks are those of the
source, the badge, the stamp, the parts by the direction, the OCCURRENCE part and, field by field, the RESULT part. -/
def Obligations.HeardPunchIsDiscarded : Prop :=
  ∀ (s : State) (f : RxFrame) (rest : List RxFrame),
    running s = true → s.line.rx = f :: rest → f.kind = .punch →
    (getPunch f.body = none → exec .hearPunch s = .next (bump .punchInvalid (taken s rest))) ∧
      ∀ n, getPunch f.body = some n →
        (n.valid f.source = true ↔
          1 ≤ f.source ∧ f.source ≤ 55 ∧ 1 ≤ n.badge ∧ n.badge ≤ 16777214 ∧ n.stamp.minute ≤ 10079 ∧ n.stamp.second ≤ 59 ∧
            (n.direction = .inward → n.occurrence ≠ none ∧ n.result = none) ∧
            (n.direction = .outward → n.occurrence = none ∧ n.superseded = none) ∧
            (∀ o, n.occurrence = some o →
              (o.kind = .noShift ∧ o.code = 0 ∧ o.start = none) ∨
                (o.kind ≠ .noShift ∧ 1 ≤ o.code ∧ o.code ≤ 12 ∧ ∃ start, o.start = some start ∧ start ≤ 660602879)) ∧
            ∀ r, n.result = some r →
              r.key.stamp.minute ≤ 10079 ∧ r.key.stamp.second ≤ 59 ∧ 1 ≤ r.key.station ∧ r.key.station ≤ 55 ∧
                r.regular ≤ 2880 ∧ r.ot1 ≤ 2880 ∧ r.ot2 ≤ 2880 ∧ r.night ≤ 2880 ∧ r.breakMinutes ≤ 120 ∧
                r.credits ≤ 25920 ∧ r.pay ≤ 5400000 ∧
                [r.flags.noShift, r.flags.negative, r.flags.overlong, r.flags.nullSpan].count true ≤ 1 ∧
                (r.start = none ↔ r.flags.noShift = true) ∧ (∀ start, r.start = some start → start ≤ 660602879) ∧
                r.effIn ≤ 660602879 ∧ r.effOut ≤ 660602879) ∧
        (n.valid f.source = false → exec .hearPunch s = .next (bump .punchInvalid (taken s rest))) ∧
          (n.valid f.source = true → s.record n.badge = none →
            exec .hearPunch s = .next (bump .punchUnknownBadge (taken s rest)))

/-- The results credited to a slot since it was last emptied: each figure is their sum held at its maximum, the number of intervals
is theirs held at 255, and SATURATED is set exactly when one of these sums exceeds its maximum. -/
def Obligations.WeekSlotHoldsItsSums : Prop :=
  ∀ (tag : Nat) (rs : List PayResult),
    rs.foldl WeekSlot.credit (WeekSlot.emptyWith tag) =
      { tag := tag
        regular := min 65535 (rs.map PayResult.regular).sum
        ot1 := min 65535 (rs.map PayResult.ot1).sum
        ot2 := min 65535 (rs.map PayResult.ot2).sum
        night := min 65535 (rs.map PayResult.night).sum
        credits := min 16777215 (rs.map PayResult.credits).sum
        pay := min 4294967295 (rs.map PayResult.pay).sum
        intervals := min 255 rs.length
        saturated :=
          decide (65535 < (rs.map PayResult.regular).sum ∨ 65535 < (rs.map PayResult.ot1).sum ∨
            65535 < (rs.map PayResult.ot2).sum ∨ 65535 < (rs.map PayResult.night).sum ∨
            16777215 < (rs.map PayResult.credits).sum ∨ 4294967295 < (rs.map PayResult.pay).sum ∨ 255 < rs.length)
        unpairedSeen := false
        abandonedSeen := false
        collected := false }

/-! ### The readers and the Punch Unit -/

/-- A qualified pulse adds its bit to the read of an ENABLED channel; one that overlaps a pulse of the other rail adds none and
spoils it, and so does a rail asserted for 25 ms, which is not free until its pulse ends; a DISABLED or OFF channel ignores them.
That a pulse is taken at its end, that one which spoils sets the end of the last pulse too, and that a pulse which ends while a rail
is stuck overlaps it, are the model's reading, and that the channel's condition is that of the pulse's end is its choice (log entry 16). -/
def Obligations.PulsesMakeARead : Prop :=
  ∀ (s : State) (r : Reader) (rail : Rail),
    (channelEnabled s r = false → (∀ o, exec (.qualifiedPulse r rail o) s = .next s) ∧ exec (.railStuck r rail) s = .next s) ∧
      (channelEnabled s r = true →
        ∀ x, (x = (s.channel r).read.getD
            { bits := [], count := 0, spoiled := false, lastEnd := s.now, zeroStuck := false, oneStuck := false }) →
          (x.zeroStuck = false → x.oneStuck = false →
            exec (.qualifiedPulse r rail false) s =
              .next (s.setChannel r { s.channel r with read := (some
                { bits := if x.bits.length < 40 then x.bits ++ [decide (rail = .one)] else x.bits,
                  count := min 255 (x.count + 1), spoiled := x.spoiled, lastEnd := s.now, zeroStuck := false,
                  oneStuck := false }) })) ∧
            (∀ overlaps, overlaps = true ∨ x.zeroStuck = true ∨ x.oneStuck = true →
              exec (.qualifiedPulse r rail overlaps) s =
                .next (s.setChannel r { s.channel r with read := (some
                  { x with spoiled := true, lastEnd := s.now, zeroStuck := x.zeroStuck && decide (rail = .one),
                           oneStuck := x.oneStuck && decide (rail = .zero) }) })) ∧
            exec (.railStuck r rail) s =
              .next (s.setChannel r { s.channel r with read := (some
                { x with spoiled := true, zeroStuck := x.zeroStuck || decide (rail = .zero),
                         oneStuck := x.oneStuck || decide (rail = .one) }) }))

/-- The 40 bits of a read are five bytes, each with its most significant bit first: site, badge number, and a check byte, which is
right when it is the inverse of the exclusive-or of the four before it. A read that ends and is BAD READ or WRONG SITE is refused at
the channel: journal entry, panel and lamp, and nothing else. A read does not end while a rail is stuck, nor in the 25 ms after its
last pulse: the command then leaves the state unchanged (log entries 6 and 16). -/
def Obligations.ChannelRefusals : Prop :=
  (∀ bits : List Bool, bits.length = 40 →
    codeSite bits = bitsFrom bits 0 ∧
      codeBadge bits = 65536 * bitsFrom bits 8 + 256 * bitsFrom bits 16 + bitsFrom bits 24 ∧
      (codeCheckOk bits = true ↔
        ∀ j, j < 8 → bits.getD (32 + j) false =
          !(bits.getD j false ^^ bits.getD (8 + j) false ^^ bits.getD (16 + j) false ^^ bits.getD (24 + j) false))) ∧
  ∀ (s : State) (r : Reader) (x : ReadInProgress), channelEnabled s r = true → (s.channel r).read = some x →
    (x.zeroStuck = true ∨ x.oneStuck = true ∨ elapsedSince s.now x.lastEnd < 25 → exec (.readEnd r) s = .next s) ∧
    (x.zeroStuck = false → x.oneStuck = false → 25 ≤ elapsedSince s.now x.lastEnd →
    ∀ badge reason,
      (x.spoiled = true ∨ x.count ≠ 40 ∨ codeCheckOk x.bits = false ∨ codeBadge x.bits = 0 ∨ codeBadge x.bits = 16777215) ∧
          badge = none ∧ reason = Reason.badRead ∨
        (x.spoiled = false ∧ x.count = 40 ∧ codeCheckOk x.bits = true ∧ 1 ≤ codeBadge x.bits ∧ codeBadge x.bits ≤ 16777214) ∧
          codeSite x.bits ≠ s.settings.siteCode ∧ badge = some (codeBadge x.bits) ∧ reason = Reason.wrongSite →
      ∃ t, exec (.readEnd r) s = .next t ∧ refusedAt s t r badge reason ∧
        (t.channel r).read = none ∧ (t.channel r).suppression = (s.channel r).suppression ∧
        t = { s with journal := t.journal, panel := t.panel, entryChannel := t.entryChannel, exitChannel := t.exitChannel,
                     counters := t.counters })

/-- A well-formed read of the right site: a repeat is counted and nothing else, a read below the queue's capacity joins its tail,
and any other is refused GATE BUSY and enters the suppression list. The capacity is 4 in a rush window and 1 outside one. A read that
joins an empty queue is tested (AdmissionReleasesTheGate says what the test does). ChannelRefusals says how site, badge and check are
read from the bits. -/
def Obligations.ReadsJoinTheQueue : Prop :=
  ∀ (s : State) (r : Reader) (x : ReadInProgress) (badge : Nat),
    channelEnabled s r = true → (s.channel r).read = some x → x.zeroStuck = false → x.oneStuck = false →
    25 ≤ elapsedSince s.now x.lastEnd → x.spoiled = false → x.count = 40 → codeCheckOk x.bits = true → 1 ≤ badge →
    badge ≤ 16777214 → codeSite x.bits = s.settings.siteCode → badge = codeBadge x.bits →
    ∀ u, u = s.setChannel r { s.channel r with read := none } →
      ((∃ e ∈ (s.channel r).suppression, e.badge = badge) ∨ (∃ w ∈ s.waiting, w.reader = r ∧ w.badge = badge) ∨
          (∃ p, s.pendingPunch = some p ∧ p.reader = r ∧ p.badge = badge) →
        exec (.readEnd r) s = .next (bump .repeatIgnored u)) ∧
      ((∀ e ∈ (s.channel r).suppression, e.badge ≠ badge) → (∀ w ∈ s.waiting, w.reader = r → w.badge ≠ badge) →
          (∀ p, s.pendingPunch = some p → p.reader = r → p.badge ≠ badge) →
        (s.waiting.length < (if s.bell.rush.isSome then 4 else 1) →
          ∃ t, exec (.readEnd r) s = .next t ∧
            (s.waiting ≠ [] →
              t = { u with waiting := s.waiting ++ [{ reader := r, badge := badge, readAt := s.now, held := false }] }) ∧
            (s.waiting = [] →
              t = testHead { u with waiting := [{ reader := r, badge := badge, readAt := s.now, held := false }] })) ∧
          ((if s.bell.rush.isSome then 4 else 1) ≤ s.waiting.length →
            ∃ t, exec (.readEnd r) s = .next t ∧ refusedAt s t r (some badge) .gateBusy ∧ listed s t r badge ∧
              t = { s with journal := t.journal, panel := t.panel, entryChannel := t.entryChannel, exitChannel := t.exitChannel,
                           counters := t.counters }))

/-- The timers of a channel: the oldest suppression entry goes after 4 elapsed seconds, an indication ends after 3, and a tone line
moves on as its present tone or gap ends: three tones of 150 ms with gaps of 150 ms for a refusal, one of 300 ms for an admission.
The lamp of an ENABLED channel is GREEN or RED by its indication; without one it is AMBER while the waiting queue holds an entry of
its reader, and OFF otherwise. A DISABLED channel's lamp is OFF, and both show STEADY RED while the station is UNCONFIGURED, reads
its image or is in BACKUP; while the reset pin is held too, which is the model's choice (log entry 10). That the lamps of a station
without any supply are OFF is the model's choice (log entry 3). -/
def Obligations.ReaderTimersRunOut : Prop :=
  (∀ (s : State) (r : Reader),
    (channelEnabled s r = true ↔
      running s = true ∧ (s.settings.gateRole = .both ∨ s.settings.gateRole = (if r = .entry then .entryOnly else .exitOnly))) ∧
      (s.starts.supply = .lost → lampOf s r = .off) ∧
      (s.starts.supply ≠ .lost → running s = false → lampOf s r = .steadyRed) ∧
      (running s = true → channelEnabled s r = false → lampOf s r = .off) ∧
      (channelEnabled s r = true →
        (∀ i, (s.channel r).indication = some i → lampOf s r = (if i.admitted then .green else .red)) ∧
          ((s.channel r).indication = none → (∃ w ∈ s.waiting, w.reader = r) → lampOf s r = .amber) ∧
          ((s.channel r).indication = none → (∀ w ∈ s.waiting, w.reader ≠ r) → lampOf s r = .off)) ∧
      (toneOutput s r = true ↔ channelEnabled s r = true ∧ ∃ t, (s.channel r).tone = some t ∧ t.sounding = true)) ∧
  ∀ (s : State) (r : Reader), channelEnabled s r = true →
    (∀ e rest, (s.channel r).suppression = e :: rest → 4000 ≤ elapsedSince s.now e.time →
      exec (.suppressionExpiry r) s = .next (s.setChannel r { s.channel r with suppression := rest })) ∧
      (∀ i, (s.channel r).indication = some i → 3000 ≤ elapsedSince s.now i.start →
        exec (.indicationExpiry r) s = .next (s.setChannel r { s.channel r with indication := none })) ∧
      ∀ t, (s.channel r).tone = some t → t.timer.duration ≤ elapsedSince s.now t.timer.start →
        (t.sounding = true → t.toCome = 0 →
            exec (.toneEnd r) s = .next (s.setChannel r { s.channel r with tone := none })) ∧
          (t.sounding = true → t.toCome ≠ 0 →
            exec (.toneEnd r) s = .next (s.setChannel r { s.channel r with tone := (some
              { sounding := false, toCome := t.toCome, timer := { start := s.now, duration := 150 } }) })) ∧
          (t.sounding = false →
            exec (.toneEnd r) s = .next (s.setChannel r { s.channel r with tone := (some
              { sounding := true, toCome := t.toCome - 1, timer := { start := s.now, duration := 150 } }) }))

/-- An entry that has waited 10 elapsed seconds leaves the queue wherever it stands and is refused WAIT TIMEOUT; the entries behind
it move up one place. Of two whose time is up, the one nearer the head is taken: for two whose ten seconds are up at the same tick
that is the model's choice (log entry 27). -/
def Obligations.WaitingReadsTimeOut : Prop :=
  ∀ (s : State) (a b : List WaitEntry) (w : WaitEntry), running s = true → s.waiting = a ++ w :: b →
    (∀ v ∈ a, elapsedSince s.now v.readAt < 10000) → 10000 ≤ elapsedSince s.now w.readAt →
    ∃ u, refusedAt s u w.reader (some w.badge) .waitTimeout ∧ listed s u w.reader w.badge ∧ u.waiting = a ++ b ∧
      u = { s with waiting := a ++ b, journal := u.journal, panel := u.panel, entryChannel := u.entryChannel,
                   exitChannel := u.exitChannel, counters := u.counters } ∧
      (a ≠ [] → exec .waitTimeout s = .next u) ∧ (a = [] → exec .waitTimeout s = .next (testHead u))

/-- The decision of a read by the first step that applies, under the effective passback policy: OFF while free passage is asserted, and
SOFT in place of HARD at a degrading station that is ISOLATED, which one is that expects peers and holds no LIVE gate station. -/
def Obligations.DecisionTable : Prop :=
  ∀ (s : State) (w : WaitEntry) (policy : Passback),
    (isolated s = true ↔
      s.starts.run = .configured ∧ 1 ≤ s.settings.expectedPeers ∧ ∀ p ∈ s.peers.entries, p.role = .gate → p.state = .silent) ∧
      (freePassageOn s = true ↔ s.gate.freePassage.accepted = some true) ∧
      (freePassageOn s = true → policyNow s = .off) ∧
      (freePassageOn s = false →
        (s.settings.passback = .hard → s.settings.degrade = true → isolated s = true → policyNow s = .soft) ∧
          (s.settings.passback = .hard → (s.settings.degrade = false ∨ isolated s = false) → policyNow s = .hard) ∧
          (s.settings.passback = .soft → policyNow s = .soft) ∧ (s.settings.passback = .off → policyNow s = .off)) ∧
      (s.clock.isSet = false → w.reader = .entry → decisionOf s w = .refuse .noTime) ∧
      (s.clock.isSet = false → w.reader = .exit → decisionOf s w = .passage) ∧
      (s.clock.isSet = true → policyNow s = policy →
        (s.record w.badge = none → decisionOf s w = .refuse .unknown) ∧
          ∀ x, s.record w.badge = some x →
            (w.reader = .entry → x.status = .barred → decisionOf s w = .refuse .barred) ∧
              (w.reader = .entry → x.status = .leaving → decisionOf s w = .refuse .leaving) ∧
              (w.reader = .entry → x.status = .active → x.presence = .isIn →
                decisionOf s w =
                  (match policy with
                   | .hard => .refuse .passback
                   | .soft => .admission true false .isIn
                   | .off => .admission false false .isIn)) ∧
              (w.reader = .entry → x.status = .active → x.presence = .isOut → decisionOf s w = .admission false false .isOut) ∧
              (w.reader = .exit → x.presence = .isIn → decisionOf s w = .admission false false .isIn) ∧
              (w.reader = .exit → x.presence = .isOut → decisionOf s w = .admission false true .isOut))

/-- A refusal at decision: the head leaves the queue, the refusal is journaled, shown, indicated and listed, the roster, the release
cycle and the transmit queue are unchanged, and the next head is tested at once. -/
def Obligations.RefusalAtDecision : Prop :=
  ∀ (s : State) (w : WaitEntry) (rest : List WaitEntry) (reason : Reason), running s = true → s.waiting = w :: rest →
    (s.gate.cycle = .idle ∨ s.gate.cycle = .free) → s.line.tx.length + s.line.reserved < 16 → decisionOf s w = .refuse reason →
    ∃ u, exec .decideHead s = .next (testHead u) ∧ refusedAt s u w.reader (some w.badge) reason ∧ listed s u w.reader w.badge ∧
      u = { s with waiting := rest, journal := u.journal, panel := u.panel, entryChannel := u.entryChannel,
                   exitChannel := u.exitChannel, counters := u.counters }

/-- The head of the waiting queue is decided only in IDLE and FREE and with a free unreserved slot of the transmit queue. A head
that finds none keeps its place, is marked and is counted DECISION HELD once, at the command and at each test of the queue; the mark
is the model's (log entry 17), and a head that may not be decided leaves the state unchanged (log entry 6). An admission: the reader
and the panel show it and it is listed. A punch has its stamp fixed, one reservation taken and the presence at decision kept; a
passage with no punch has none of these. At a gate with a door contact in IDLE it is pending, and the cycle is RELEASED with its
timer; roster and journal are untouched. In FREE, and without a door contact, the passage is reported at once: a punch commits, a
passage with no punch is journaled; FREE stays FREE, IDLE becomes RELEASED with nothing pending. -/
def Obligations.AdmissionReleasesTheGate : Prop :=
  (∀ s : State,
    (s.waiting = [] ∨ running s = false ∨ (s.gate.cycle ≠ .idle ∧ s.gate.cycle ≠ .free) →
      testHead s = s ∧ exec .decideHead s = .next s) ∧
    (s.line.tx.length + s.line.reserved < 16 → testHead s = s) ∧
    (running s = true → (s.gate.cycle = .idle ∨ s.gate.cycle = .free) → 16 ≤ s.line.tx.length + s.line.reserved →
      exec .decideHead s = .next (testHead s) ∧
        ∀ w rest, s.waiting = w :: rest →
          (w.held = true → testHead s = s) ∧
          (w.held = false → testHead s = bump .decisionHeld { s with waiting := { w with held := true } :: rest }))) ∧
  ∀ (s : State) (w : WaitEntry) (rest : List WaitEntry) (g : Gate), running s = true → s.waiting = w :: rest →
    s.line.tx.length + s.line.reserved < 16 →
    g = { s.gate with cycle := .released, holdTimer := none,
                      releaseTimer := (some { start := s.now, duration := 1000 *
                        (if s.bell.rush.isSome then s.settings.rushTime else s.settings.releaseTime) }) } →
    (∀ soft unpaired presence, decisionOf s w = .admission soft unpaired presence →
      ∀ (p : PendingPunch) (text : List Byte),
      p = { kind := .punch, reader := w.reader, badge := w.badge, stamp := some s.clock.stamp, softPassback := soft,
            unpaired := unpaired, presence := some presence } →
      text = rowText ((if w.reader = .entry then textBytes "IN " else textBytes "OUT ") ++
        timeText (minuteOfDay s.clock.minute) ++ textBytes " OK") →
      (s.gate.cycle = .idle → s.settings.confirm = true →
        ∃ t, exec .decideHead s = .next t ∧ t.pendingPunch = some p ∧ t.line = { s.line with reserved := s.line.reserved + 1 } ∧
          t.gate = g ∧ t.waiting = rest ∧ indicated s t w.reader true ∧ listed s t w.reader w.badge ∧ overlaid s t text 3000 ∧
          t = { s with waiting := rest, pendingPunch := t.pendingPunch, line := t.line, gate := t.gate, panel := t.panel,
                       entryChannel := t.entryChannel, exitChannel := t.exitChannel }) ∧
      (s.gate.cycle = .free ∨ (s.gate.cycle = .idle ∧ s.settings.confirm = false) →
        ∃ t, exec .decideHead s = .next (testHead t) ∧ t.gate = (if s.gate.cycle = .free then s.gate else g) ∧
          indicated s t w.reader true ∧ listed s t w.reader w.badge ∧ committed s t p s.clock.stamp s.line.reserved ∧
          ((commitRoster p s.clock.stamp s).2.message = none → overlaid s t text 3000) ∧
          t = { s with waiting := rest, pendingPunch := none, line := t.line, gate := t.gate, panel := t.panel,
                       entryChannel := t.entryChannel, exitChannel := t.exitChannel, roster := t.roster,
                       journal := t.journal, counters := t.counters })) ∧
    (decisionOf s w = .passage → ∀ p : PendingPunch,
      p = { kind := .passage, reader := w.reader, badge := w.badge, stamp := none, softPassback := false, unpaired := false,
            presence := none } →
      (s.gate.cycle = .idle → s.settings.confirm = true →
        ∃ t, exec .decideHead s = .next t ∧ t.pendingPunch = some p ∧ t.gate = g ∧ indicated s t w.reader true ∧
          listed s t w.reader w.badge ∧ overlaid s t (rowText (textBytes "EXIT NO TIME")) 3000 ∧
          t = { s with waiting := rest, pendingPunch := t.pendingPunch, gate := t.gate, panel := t.panel,
                       entryChannel := t.entryChannel, exitChannel := t.exitChannel }) ∧
      (s.gate.cycle = .free ∨ (s.gate.cycle = .idle ∧ s.settings.confirm = false) →
        ∃ t, exec .decideHead s = .next (testHead t) ∧ t.gate = (if s.gate.cycle = .free then s.gate else g) ∧
          indicated s t w.reader true ∧ listed s t w.reader w.badge ∧
          overlaid s t (rowText (textBytes "EXIT NO TIME")) 3000 ∧
          wrote s t s.clock.stamp (some w.reader) (some w.badge) .passageNoPunch .none none ∧
          t = { s with waiting := rest, pendingPunch := none, gate := t.gate, panel := t.panel,
                       entryChannel := t.entryChannel, exitChannel := t.exitChannel, journal := t.journal,
                       counters := t.counters }))

/-! ### The gate -/

/-- With every input established the cycle leaves OFF by the accepted levels, without any event; a door found open is HELD OPEN, is
journaled, and starts no timer. The entry carries the clock at the command (log entry 8). That this is a step of its own is the
table's, its condition the model's (log entry 8). -/
def Obligations.InputsEstablishedLeaveOff : Prop :=
  ∀ s : State, running s = true → s.gate.cycle = .off →
    (s.settings.confirm = true → s.gate.door.accepted.isSome = true) → s.gate.button.accepted.isSome = true →
    (s.gate.freePassage.accepted = some true →
      exec .inputsEstablished s =
        .next (testHead { s with gate := { s.gate with cycle := .free, releaseTimer := none, holdTimer := none } })) ∧
      (s.gate.freePassage.accepted = some false → s.settings.confirm = true → s.gate.door.accepted = some true →
        ∃ t, exec .inputsEstablished s = .next t ∧
          t.gate = { s.gate with cycle := .heldOpen, releaseTimer := none, holdTimer := none } ∧
          wrote s t s.clock.stamp none none .heldOpen .none none ∧ alarmOutput t = true ∧
          t = { s with gate := t.gate, journal := t.journal, counters := t.counters }) ∧
      (s.gate.freePassage.accepted = some false → (s.settings.confirm = false ∨ s.gate.door.accepted = some false) →
        exec .inputsEstablished s =
          .next (testHead { s with gate := { s.gate with cycle := .idle, releaseTimer := none, holdTimer := none } }))

/-- A door closing taken in PASSING ends the passage: the hold timer is stopped, the cycle becomes IDLE, which is handed to the
Punch Unit, and no journal entry is written. A closing in FREE, in OFF, or latched before the controller left OFF is taken and does
nothing else, by "Free passage" and "Inputs and their qualification". A closing in IDLE or RELEASED, which "The states and the
outputs" says does not arise, is taken and does nothing else too: that is the model's choice (log entry 8). -/
def Obligations.DoorClosingEndsThePassage : Prop :=
  (∀ (s : State) (e : Latched) (later : List Latched), running s = true → s.gate.door.latched = e :: later → e.level = false →
    e.early = true ∨ s.gate.cycle = .idle ∨ s.gate.cycle = .released ∨ s.gate.cycle = .free ∨ s.gate.cycle = .off →
    exec .doorCloses s = .next { s with gate := { s.gate with door := { s.gate.door with latched := later } } }) ∧
  ∀ (s : State) (later : List Latched), running s = true → s.gate.cycle = .passing →
    s.gate.door.latched = { level := false, early := false } :: later →
    exec .doorCloses s =
      .next (testHead { s with gate := { s.gate with cycle := .idle, releaseTimer := none, holdTimer := none,
                                                     door := { s.gate.door with latched := later } } })

/-- HELD OPEN and FORCED: a door closing takes the cycle to IDLE with the alarm off and no journal entry, a press is ignored, a
Remote Release is answered WRONG STATE, the Punch Unit decides nothing, and a rush window that opens does not change the cycle. That
the expiry of a timer that does not run in these states leaves the state unchanged is the model's (log entry 6). -/
def Obligations.HeldOpenAndForcedWaitForTheDoor : Prop :=
  ∀ s : State, running s = true → (s.gate.cycle = .heldOpen ∨ s.gate.cycle = .forced) →
    alarmOutput s = true ∧
      (∀ later, s.gate.door.latched = { level := false, early := false } :: later →
        ∃ u, exec .doorCloses s = .next (testHead u) ∧ alarmOutput (testHead u) = false ∧ (testHead u).journal = s.journal ∧
          u = { s with gate := { s.gate with cycle := .idle, releaseTimer := none, holdTimer := none,
                                             door := { s.gate.door with latched := later } } }) ∧
      (∀ later, s.gate.button.latched = { level := true, early := false } :: later →
        exec .exitButtonPress s = .next { s with gate := { s.gate with button := { s.gate.button with latched := later } } }) ∧
      (∀ office dest tag rest, dest ≠ 0 → requestReady s office dest 0x10#8 tag [] rest →
        exec .remoteRelease s = .next (answered office dest 0x10#8 tag .wrongState [] (taken s rest))) ∧
      exec .decideHead s = .next s ∧ exec .releaseTimerExpiry s = .next s ∧ exec .holdTimerExpiry s = .next s ∧
      ∀ m, (openRush m s).gate = s.gate

/-- A door opening in IDLE is FORCED and journaled; in RELEASED it is the passage: the cycle is PASSING with its hold timer, and a
pending punch commits: the roster is the one its commit leaves, its journal entry is QUEUED, its notice stands at the tail of the
transmit queue in place of its reservation, and a message delivered is shown. A pending PUNCH holds its stamp (TransmitQueueIsKept).
An opening in FREE or OFF, and one latched before the controller left OFF, is taken and does nothing else; so is one in PASSING,
HELD OPEN or FORCED, which "The states and the outputs" says does not arise: that is the model's choice (log entry 8). That FORCED,
and the entry of a passage with no punch, carry the clock at the command that takes the latched opening is the model's reading of
"the site clock at the opening" (log entry 8). -/
def Obligations.DoorOpeningsForceOrPass : Prop :=
  (∀ (s : State) (e : Latched) (later : List Latched), running s = true → s.gate.door.latched = e :: later → e.level = true →
    e.early = true ∨ (s.gate.cycle ≠ .idle ∧ s.gate.cycle ≠ .released) →
    exec .doorOpens s = .next { s with gate := { s.gate with door := { s.gate.door with latched := later } } }) ∧
  ∀ (s : State) (later : List Latched), running s = true → s.gate.door.latched = { level := true, early := false } :: later →
    (s.gate.cycle = .idle →
      ∃ t, exec .doorOpens s = .next t ∧ alarmOutput t = true ∧ wrote s t s.clock.stamp none none .forced .none none ∧
        t.gate = { s.gate with cycle := .forced, releaseTimer := none, holdTimer := none,
                               door := { s.gate.door with latched := later } } ∧
        t = { s with gate := t.gate, journal := t.journal, counters := t.counters }) ∧
      (s.gate.cycle = .released → (∀ p, s.pendingPunch = some p → p.stamped) →
        ∃ t, exec .doorOpens s = .next t ∧ releaseOutput t = false ∧ t.pendingPunch = none ∧
          t.gate = { s.gate with cycle := .passing, releaseTimer := none,
                                 holdTimer := some { start := s.now, duration := 1000 * s.settings.holdLimit },
                                 door := { s.gate.door with latched := later } } ∧
          (s.pendingPunch = none → t = { s with gate := t.gate }) ∧
          (∀ p, s.pendingPunch = some p → p.kind = .passage →
            wrote s t s.clock.stamp (some p.reader) (some p.badge) .passageNoPunch .none none ∧
              t = { s with gate := t.gate, journal := t.journal, pendingPunch := none, counters := t.counters }) ∧
          (∀ p stamp, s.pendingPunch = some p → p.kind = .punch → p.stamp = some stamp →
            committed s t p stamp (s.line.reserved - 1) ∧
              ((commitRoster p stamp s).2.message = none → t.panel = s.panel) ∧
              t = { s with gate := t.gate, journal := t.journal, pendingPunch := none, counters := t.counters, line := t.line,
                           roster := t.roster, panel := t.panel }))

/-- A commit of an own punch. For a badge that has no record any more it changes nothing but the counter ORPHAN COMMIT; an IN then
gives an occurrence of kind NO SHIFT with code 0, and neither a result nor a message. For a badge with a record: an IN opens an
interval at the own station with the record's shift code; an OUT closes the open one, whose result is the Pay Calculator's, credited
once to the slot of its week and STALE when there is none, and brings the accumulator up. The message is delivered and cleared, the
last punch takes the later key, and an UNPAIRED punch is seen. -/
def Obligations.OwnCommitChangesTheRecord : Prop :=
  (∀ (s : State) (p : PendingPunch) (stamp : Stamp), s.record p.badge = none →
    commitRoster p stamp s =
      (bump .orphanCommit s,
        { occurrence := if p.reader = .entry then some { code := 0, kind := .noShift, start := none } else none
          superseded := none, result := none, crossed := false, message := none })) ∧
  ∀ (s : State) (p : PendingPunch) (stamp : Stamp) (x : Record) (key : PunchKey), s.record p.badge = some x →
    key = { stamp := stamp, station := s.settings.station } →
    ∃ t y info, commitRoster p stamp s = (t, info) ∧ t = { s with roster := t.roster, counters := t.counters } ∧
      settledAs y s.roster t.roster ∧
      y.badge = x.badge ∧ y.status = x.status ∧ y.shiftCode = x.shiftCode ∧ y.rateClass = x.rateClass ∧
      y.message = none ∧ info.message = x.message ∧ info.crossed = decide (p.presence ≠ some x.presence) ∧
      y.lastPunch =
        (if isCurrent x key then some { key := key, direction := readerDirection p.reader } else x.lastPunch) ∧
      (p.reader = .entry → ∀ o, o = chooseOccurrence s.settings x.shiftCode stamp →
        y.presence = .isIn ∧ y.interval = some { key := key, code := o.code, kind := o.kind, start := o.start } ∧
          info.occurrence = some o ∧ info.result = none ∧ info.superseded = x.interval.map OpenInterval.key ∧
          accumulatorOpened s.settings stamp o x.acc y.acc ∧ y.credited = x.credited ∧ y.previous = x.previous ∧
          y.current = { x.current with abandonedSeen := x.current.abandonedSeen || x.interval.isSome } ∧
          t.counters = (if x.interval.isSome then bump .intervalAbandoned s else s).counters) ∧
      (p.reader = .exit → ∀ c, c = { x.current with unpairedSeen := x.current.unpairedSeen || p.unpaired } →
        y.presence = .isOut ∧ y.interval = none ∧ info.occurrence = none ∧ info.superseded = none ∧
          (x.interval = none → info.result = none ∧ y.acc = x.acc ∧ y.credited = x.credited ∧ y.current = c ∧
            y.previous = x.previous ∧ t.counters = s.counters) ∧
          (∀ iv r acc, x.interval = some iv → closeInterval s.settings iv x.acc stamp (s.settings.rate x.rateClass) = (r, acc) →
            r.key = iv.key ∧
            (iv.key ∈ x.credited →
              info.result = some r ∧ r.flags.stale = false ∧ y.credited = x.credited ∧ y.current = c ∧
                y.previous = x.previous ∧ lastOutTouched iv.start stamp x.acc y.acc ∧
                t.counters = (bump .resultDuplicate s).counters) ∧
              (iv.key ∉ x.credited →
                info.result = some { r with flags := { r.flags with
                  stale := decide (x.current.tag ≠ iv.key.stamp.week ∧ x.previous.tag ≠ iv.key.stamp.week) } } ∧
                  y.credited = (iv.key :: x.credited).take 3 ∧ slotsCredited r c x.previous y.current y.previous ∧
                  creditCounted r x s t ∧ lastOutTouched iv.start stamp acc y.acc ∧
                  ∀ k, k ≠ .resultStale → k ≠ .collectedCredited → t.counter k = s.counter k)))

/-- A press of the exit button and a Remote Release in IDLE each take the cycle to RELEASED with no pending punch and one journal
entry; in any other state the press is ignored and the request is answered WRONG STATE. A press latched before the controller left
OFF is taken and does nothing else. That the entry EXIT BUTTON carries the clock at the command that takes the latched press is the
model's reading of "the site clock at the press" (log entry 8). -/
def Obligations.ReleasesWithoutAPunch : Prop :=
  ∀ s : State, running s = true →
    (∀ later, s.gate.button.latched = { level := true, early := false } :: later →
      (s.gate.cycle = .idle →
        ∃ t, exec .exitButtonPress s = .next t ∧ wrote s t s.clock.stamp none none .exitButton .none none ∧
          t.gate = { s.gate with cycle := .released, holdTimer := none, button := { s.gate.button with latched := later },
                                 releaseTimer := (some { start := s.now, duration := 1000 *
                                   (if s.bell.rush.isSome then s.settings.rushTime else s.settings.releaseTime) }) } ∧
          t = { s with gate := t.gate, journal := t.journal, counters := t.counters }) ∧
        (s.gate.cycle ≠ .idle →
          exec .exitButtonPress s =
            .next { s with gate := { s.gate with button := { s.gate.button with latched := later } } })) ∧
      (∀ later, s.gate.button.latched = { level := true, early := true } :: later →
        exec .exitButtonPress s = .next { s with gate := { s.gate with button := { s.gate.button with latched := later } } }) ∧
      ∀ office dest tag rest, dest ≠ 0 → requestReady s office dest 0x10#8 tag [] rest →
        (s.gate.cycle = .idle →
          ∃ u, exec .remoteRelease s = .next (answered office dest 0x10#8 tag .done [] u) ∧
            wrote s u s.clock.stamp none none .remoteRelease .none none ∧
            u.gate = { s.gate with cycle := .released, holdTimer := none,
                                   releaseTimer := (some { start := s.now, duration := 1000 *
                                     (if s.bell.rush.isSome then s.settings.rushTime else s.settings.releaseTime) }) } ∧
            u = { taken s rest with gate := u.gate, journal := u.journal, counters := u.counters }) ∧
          (s.gate.cycle ≠ .idle →
            exec .remoteRelease s = .next (answered office dest 0x10#8 tag .wrongState [] (taken s rest)))

/-- The expiry of the release timer takes the cycle to IDLE and withdraws a pending punch, with its journal entry and its reservation
released; that of the hold timer gives HELD OPEN, or starts the timer again while a rush window is open. -/
def Obligations.GateTimersRunOut : Prop :=
  ∀ (s : State) (timer : Timer), running s = true → timer.duration ≤ elapsedSince s.now timer.start →
    (s.gate.cycle = .released → s.gate.releaseTimer = some timer →
      ∃ u, exec .releaseTimerExpiry s = .next (testHead u) ∧ u.pendingPunch = none ∧
        u.gate = { s.gate with cycle := .idle, releaseTimer := none, holdTimer := none } ∧
        (s.pendingPunch = none → u = { s with gate := u.gate }) ∧
        ∀ p, s.pendingPunch = some p →
          wrote s u s.clock.stamp (some p.reader) (some p.badge) .withdrawn .none none ∧
            u.line = { s.line with reserved := if p.kind = .punch then s.line.reserved - 1 else s.line.reserved } ∧
            u = { s with gate := u.gate, journal := u.journal, pendingPunch := none, line := u.line,
                         counters := u.counters }) ∧
      (s.gate.cycle = .passing → s.gate.holdTimer = some timer →
        (s.bell.rush = none →
          ∃ t, exec .holdTimerExpiry s = .next t ∧ wrote s t s.clock.stamp none none .heldOpen .none none ∧
            t.gate = { s.gate with cycle := .heldOpen, releaseTimer := none, holdTimer := none } ∧
            t = { s with gate := t.gate, journal := t.journal, counters := t.counters }) ∧
          (s.bell.rush.isSome = true →
            exec .holdTimerExpiry s =
              .next { s with gate := { s.gate with releaseTimer := none, holdTimer :=
                (some { start := s.now, duration := 1000 * s.settings.holdLimit }) } }))

/-- Free passage asserted takes a configured station's cycle to FREE, with a pending punch committed as at a door opening; released,
it leaves FREE by the door. An assertion or a release in OFF, and an event latched before the controller left OFF, is taken and does
nothing else; so are an assertion in FREE and a release outside FREE, to which no rule gives an effect: that is the model's choice
(log entry 8). An UNCONFIGURED station goes between OFF and FREE, at its first accepted level too. Latched events, and that the
entry of a passage with no punch carries the clock at the command that takes the event, are the model's (log entry 8). -/
def Obligations.FreePassageOpensTheGate : Prop :=
  (∀ (s : State) (e : Latched) (later : List Latched), running s = true → s.gate.freePassage.latched = e :: later →
    (e.level = true → e.early = true ∨ s.gate.cycle = .off ∨ s.gate.cycle = .free →
      exec .freePassageAsserted s =
        .next { s with gate := { s.gate with freePassage := { s.gate.freePassage with latched := later } } }) ∧
    (e.level = false → e.early = true ∨ s.gate.cycle ≠ .free →
      exec .freePassageReleased s =
        .next { s with gate := { s.gate with freePassage := { s.gate.freePassage with latched := later } } })) ∧
  (∀ s : State, unconfiguredMain s = true → s.gate.freePassage.latched = [] → s.gate.freePassage.accepted = some true →
    exec .freePassageAsserted s =
      .next { s with gate := { s.gate with cycle := .free, releaseTimer := none, holdTimer := none } }) ∧
  ∀ (s : State) (later : List Latched),
    (s.gate.freePassage.latched = { level := true, early := false } :: later →
      (running s = true → s.gate.cycle ≠ .off → s.gate.cycle ≠ .free →
        ∃ t, exec .freePassageAsserted s = .next (testHead t) ∧ releaseOutput (testHead t) = true ∧
          alarmOutput (testHead t) = false ∧
          t.gate = { s.gate with cycle := .free, releaseTimer := none, holdTimer := none,
                                 freePassage := { s.gate.freePassage with latched := later } } ∧
          (s.gate.cycle = .released → ∀ p, s.pendingPunch = some p → p.stamped →
            t.pendingPunch = none ∧
              (p.kind = .passage →
                wrote s t s.clock.stamp (some p.reader) (some p.badge) .passageNoPunch .none none ∧
                  t = { s with gate := t.gate, journal := t.journal, pendingPunch := none, counters := t.counters }) ∧
              ∀ stamp, p.kind = .punch → p.stamp = some stamp →
                committed s t p stamp (s.line.reserved - 1) ∧
                  ((commitRoster p stamp s).2.message = none → t.panel = s.panel) ∧
                  t = { s with gate := t.gate, journal := t.journal, pendingPunch := none, counters := t.counters,
                               line := t.line, roster := t.roster, panel := t.panel }) ∧
          (s.gate.cycle ≠ .released ∨ s.pendingPunch = none → t = { s with gate := t.gate })) ∧
        (unconfiguredMain s = true →
          exec .freePassageAsserted s =
            .next { s with gate := { s.gate with cycle := .free, releaseTimer := none, holdTimer := none,
                                                 freePassage := { s.gate.freePassage with latched := later } } })) ∧
      (s.gate.freePassage.latched = { level := false, early := false } :: later →
        (running s = true → s.gate.cycle = .free → s.settings.confirm = true → s.gate.door.accepted = some true →
          exec .freePassageReleased s =
            .next { s with gate := { s.gate with cycle := .passing, releaseTimer := none,
                                                 holdTimer := some { start := s.now, duration := 1000 * s.settings.holdLimit },
                                                 freePassage := { s.gate.freePassage with latched := later } } }) ∧
          (running s = true → s.gate.cycle = .free → (s.settings.confirm = false ∨ s.gate.door.accepted ≠ some true) →
            exec .freePassageReleased s =
              .next (testHead { s with gate := { s.gate with cycle := .idle, releaseTimer := none, holdTimer := none,
                                                             freePassage := { s.gate.freePassage with latched := later } } })) ∧
          (unconfiguredMain s = true →
            exec .freePassageReleased s =
              .next { s with gate := { s.gate with cycle := .off, releaseTimer := none, holdTimer := none,
                                                   freePassage := { s.gate.freePassage with latched := later } } }))

/-! ### The Pay Calculator -/

/-- Effective in and out: inside its window a SCHEDULED punch counts as at the start or the end; otherwise, and for OFF DAY, the in
is raised and the out lowered to the grid of the unit measured from the start; NO SHIFT is not rounded. -/
def Obligations.PunchesAreRounded : Prop :=
  ∀ (e : ShiftEntry) (start m : Nat), 0 < e.unit → m < 660602880 → start < 660602880 →
    ((∀ o, effectiveIn e .noShift o m = m) ∧ (∀ o, effectiveOut e .noShift o m = m)) ∧
      (-(e.earlyIn : Int) ≤ absDiff m start → absDiff m start ≤ e.lateGrace →
        effectiveIn e .scheduled (some start) m = start) ∧
      (-(e.earlyLeave : Int) ≤ absDiff m (absAdd start e.length) → absDiff m (absAdd start e.length) ≤ e.lateOut →
        effectiveOut e .scheduled (some start) m = absAdd start e.length) ∧
      (∀ kind, kind = .offDay ∨
          (kind = .scheduled ∧ (absDiff m start < -(e.earlyIn : Int) ∨ (e.lateGrace : Int) < absDiff m start)) →
        ∃ k : Int, effectiveIn e kind (some start) m = absAdd start (k * e.unit) ∧ absDiff m start ≤ k * e.unit ∧
          (∀ j : Int, absDiff m start ≤ j * e.unit → k ≤ j) ∧
          (∀ j : Int, absDiff m start = j * e.unit → effectiveIn e kind (some start) m = m)) ∧
      ∀ kind, kind = .offDay ∨
          (kind = .scheduled ∧ (absDiff m (absAdd start e.length) < -(e.earlyLeave : Int) ∨
            (e.lateOut : Int) < absDiff m (absAdd start e.length))) →
        ∃ k : Int, effectiveOut e kind (some start) m = absAdd start (k * e.unit) ∧ k * e.unit ≤ absDiff m start ∧
          ∀ j : Int, j * e.unit ≤ absDiff m start → j ≤ k

/-- The occurrence start of an own IN punch is the candidate nearest to the in-minute, the later one of two that are equally near,
and lies at most 720 minutes away; shift code 0 gives NO SHIFT without a start, and the kind follows the day the occurrence starts
on. -/
def Obligations.OccurrenceIsTheNearestStart : Prop :=
  ∀ (c : Settings) (code : Nat) (stamp : Stamp),
    (code = 0 → chooseOccurrence c code stamp = { code := 0, kind := .noShift, start := none }) ∧
      (code ≠ 0 → (c.shift code).start < 1440 →
        ∃ start, (chooseOccurrence c code stamp).code = code ∧ (chooseOccurrence c code stamp).start = some start ∧
          (chooseOccurrence c code stamp).kind =
            (if (c.shift code).days.getLsbD (start % 10080 / 1440) then .scheduled else .offDay) ∧
          ∀ m begins, m = (stamp.abs + (if stamp.second = 0 then 0 else 1)) % 660602880 →
            begins = absAdd m (-((m % 10080 % 1440 : Nat) : Int)) →
            (start = absAdd begins ((c.shift code).start : Int) ∨ start = absAdd begins (((c.shift code).start : Int) - 1440) ∨
                start = absAdd begins (((c.shift code).start : Int) + 1440)) ∧
              minutesApart m start ≤ 720 ∧
              ∀ k ∈ [((c.shift code).start : Int), ((c.shift code).start : Int) - 1440, ((c.shift code).start : Int) + 1440],
                minutesApart m start ≤ minutesApart m (absAdd begins k) ∧
                  (minutesApart m start = minutesApart m (absAdd begins k) → 0 ≤ absDiff start (absAdd begins k)))

/-- The close of an interval, by its conditions in their order: NO SHIFT, an out stamp before the in-stamp, more than 2,880 minutes,
a span of 0 or less. The first that holds gives a zero result with its flag and leaves the accumulator; otherwise break, bands,
night minutes and the accumulator are those that `paidAs` says. What holds of every interval result: the bands sum to the span less
the break, regular does not exceed L nor ot1 L2 less L, night does not exceed the span, a zero result is zero throughout, and
credits and pay follow from the minutes and the rate. For a zero result the span is taken as 0, and the regular minutes of an OFF
DAY result are 0. -/
def Obligations.ResultIdentities : Prop :=
  ∀ (c : Settings) (iv : OpenInterval) (acc : Option Accumulator) (out : Stamp) (rate : Nat) (r : PayResult)
    (after : Option Accumulator) (effIn effOut inMinutes outMinutes : Nat) (w : Int) (zero : ResultFlags → PayResult),
    (c.shift iv.code).limit ≤ (c.shift iv.code).limit2 → closeInterval c iv acc out rate = (r, after) →
    inMinutes = (iv.key.stamp.abs + (if iv.key.stamp.second = 0 then 0 else 1)) % 660602880 → outMinutes = out.abs % 660602880 →
    effIn = effectiveIn (c.shift iv.code) iv.kind iv.start inMinutes →
    effOut = effectiveOut (c.shift iv.code) iv.kind iv.start outMinutes → w = absDiff effOut effIn →
    (∀ flags, zero flags =
      { key := iv.key, start := if iv.kind = .noShift then none else iv.start, effIn := effIn, effOut := effOut, regular := 0, ot1 := 0
        ot2 := 0, night := 0, breakMinutes := 0, credits := 0, pay := 0
        flags := { flags with offDay := decide (iv.kind = .offDay) } }) →
    (iv.kind = .noShift → r = zero { ResultFlags.clear with noShift := true } ∧ after = acc) ∧
    (iv.kind ≠ .noShift → clockDiff out iv.key.stamp < 0 → r = zero { ResultFlags.clear with negative := true } ∧ after = acc) ∧
    (iv.kind ≠ .noShift → 0 ≤ clockDiff out iv.key.stamp →
      (2880 < absDiff outMinutes inMinutes → r = zero { ResultFlags.clear with overlong := true } ∧ after = acc) ∧
        (absDiff outMinutes inMinutes ≤ 2880 → w ≤ 0 → r = zero { ResultFlags.clear with nullSpan := true } ∧ after = acc) ∧
        (absDiff outMinutes inMinutes ≤ 2880 → 0 < w → ∀ start, iv.start = some start →
          paidAs c iv acc start effIn effOut w r after)) ∧
    ∃ span : Nat,
      (r.flags.zero = true → span = 0) ∧ (r.flags.zero = false → (span : Int) = absDiff r.effOut r.effIn ∧ 1 ≤ span ∧ span ≤ 2880) ∧
        r.regular + r.ot1 + r.ot2 + r.breakMinutes = span ∧ r.regular ≤ (c.shift iv.code).limit ∧
        (r.flags.offDay = true → r.regular = 0) ∧
        r.ot1 ≤ (c.shift iv.code).limit2 - (c.shift iv.code).limit ∧ r.night ≤ span ∧
        (r.flags.zero = true → r.regular = 0 ∧ r.ot1 = 0 ∧ r.ot2 = 0 ∧ r.night = 0 ∧ r.breakMinutes = 0 ∧ r.credits = 0 ∧ r.pay = 0) ∧
        r.credits = 4 * r.regular + 6 * r.ot1 + 8 * r.ot2 + r.night ∧ r.pay = (r.credits * rate + 120) / 240

/-! ### The bell -/

/-- A RING notice. One that fails its checks is counted RING INVALID. Of another zone it is passed over; without CLOCK SET, of
another day, or more than 120 seconds from the entry's time, it is counted RING IGNORED; for an entry that does not apply today or
has another minute, SCHEDULE MISMATCH; for one whose mark is set it is passed over; in this order. Otherwise the entry is followed:
its mark is set, no notice is sent, the rush window opens or is extended at a shift change, and the own entry's pattern begins on a
READY, QUIET bell, waits behind a ring that sounds, is dropped by a full ring queue, or is skipped by a faulted bell. -/
def Obligations.RingNoticeIsFollowed : Prop :=
  ∀ (s : State) (f : RxFrame) (rest : List RxFrame) (r : RingNotice) (e : BellEntry) (d : Int),
    running s = true → s.line.rx = f :: rest → f.kind = .ring → getRing f.body = r → e = s.settings.bell r.index →
    d = clockDiff s.clock.stamp (entryStamp s r.index) →
    (ringValid f.body f.source = true ↔
      1 ≤ f.source ∧ f.source ≤ 55 ∧ 1 ≤ r.zone ∧ r.zone ≤ 8 ∧ r.index ≤ 31 ∧ r.day ≤ 6 ∧ r.minute ≤ 1439 ∧
        ((getByte f.body 7).toNat / 64 = 3 →
          1 ≤ (getByte f.body 7).toNat % 32 ∧ (getByte f.body 7).toNat % 32 ≤ 30)) ∧
    (ringValid f.body f.source = false → exec .hearRing s = .next (bump .ringInvalid (taken s rest))) ∧
    (ringValid f.body f.source = true →
      (r.zone ≠ s.settings.zone → exec .hearRing s = .next (taken s rest)) ∧
      (r.zone = s.settings.zone →
        (s.clock.isSet = false ∨ r.week ≠ s.clock.week ∨ r.day ≠ dayOfWeek s.clock.minute →
          exec .hearRing s = .next (bump .ringIgnored (taken s rest))) ∧
        (s.clock.isSet = true → r.week = s.clock.week → r.day = dayOfWeek s.clock.minute →
          (appliesToday s r.index = false ∨ r.minute ≠ e.minute →
            exec .hearRing s = .next (bump .scheduleMismatch (taken s rest))) ∧
          (appliesToday s r.index = true → r.minute = e.minute →
            (marked s r.index = true → exec .hearRing s = .next (taken s rest)) ∧
            (marked s r.index = false → d < -120 ∨ 120 < d → exec .hearRing s = .next (bump .ringIgnored (taken s rest))) ∧
            (marked s r.index = false → -120 ≤ d → d ≤ 120 →
              ∃ t, exec .hearRing s = .next t ∧ marked t r.index = true ∧
                (∀ i, i ≠ r.index → marked t i = marked s i) ∧ t.line = (taken s rest).line ∧
                bellFollows s t s.clock.stamp r.index ∧
                (∀ k, k ≠ .ringDropped → k ≠ .bellSkipped → t.counter k = s.counter k) ∧
                t = { taken s rest with bell := t.bell, counters := t.counters })))))

/-- A stroke that runs to its end is judged by its mean: at or above the open limit it passes and leaves the bell state as it was
(a Bell Test makes it READY), and is followed by a gap or by the end of the ring; below it the stroke counts OPEN STROKE, the ring is
abandoned and the bell is FAULTED OPEN. -/
def Obligations.StrokesAreJudgedByTheirMean : Prop :=
  ∀ (s : State) (timer : Timer), running s = true → s.bell.sounder = .striking → s.bell.timer = some timer →
    timer.duration ≤ elapsedSince s.now timer.start → s.bell.aboveRun < 3 → 0 < s.bell.number →
    (s.settings.openLimit ≤ s.bell.sum / s.bell.number →
      (∀ ring k, s.bell.current = some (.ring ring (k + 1)) →
        exec .strokeEnd s = .next { s with bell := { s.bell with
            sounder := .gap, timer := some { start := s.now, duration := 1000 } } }) ∧
        (∀ ring, s.bell.current = some (.ring ring 0) →
          exec .strokeEnd s = .next { s with bell := { s.bell with
            sounder := .pause, current := none, timer := some { start := s.now, duration := 1000 } } }) ∧
        (∀ office tag, s.bell.current = some (.test office tag) →
          exec .strokeEnd s =
            .next (offerReply { destination := office, kind := 0x11#8, tag := tag, status := .done,
                                data := put1 0 ++ put2 (s.bell.sum / s.bell.number) ++ put2 s.bell.highest }
              { s with bell := { s.bell with
            sounder := .pause, current := none, state := .ready, timer := some { start := s.now, duration := 1000 } } }))) ∧
      (s.bell.sum / s.bell.number < s.settings.openLimit →
        ∃ u, u = bump .openStroke { s with bell := { s.bell with
            sounder := .pause, current := none, state := .faultedOpen, timer := some { start := s.now, duration := 1000 } } } ∧
          (∀ ring k, s.bell.current = some (.ring ring k) → exec .strokeEnd s = .next u) ∧
          ∀ office tag, s.bell.current = some (.test office tag) →
            exec .strokeEnd s =
              .next (offerReply { destination := office, kind := 0x11#8, tag := tag, status := .done,
                                  data := put1 2 ++ put2 (s.bell.sum / s.bell.number) ++ put2 s.bell.highest } u))

/-- LONG is one stroke of 4 seconds, DOUBLE two and TRIPLE three of 1 second, CONTINUOUS one of its length. Three samples running
above the short limit cut a stroke: the ring is abandoned and the bell is FAULTED SHORT. The end of a gap begins the next stroke,
and the end of a pause the next ring of a READY bell's queue. The run of three is the model's count (log entry 15). -/
def Obligations.SounderMovesOn : Prop :=
  (∀ p : Pattern, (p.strokes, p.strokeLength) =
    (match p with | .long => (1, 4000) | .double => (2, 1000) | .triple => (3, 1000) | .continuous k => (1, 1000 * k))) ∧
  ∀ s : State, running s = true →
    (s.bell.sounder = .striking → 3 ≤ s.bell.aboveRun →
      ∃ u, u = { s with bell := { s.bell with
            sounder := .pause, current := none, state := .faultedShort, timer := some { start := s.now, duration := 1000 } } } ∧
        (∀ ring k, s.bell.current = some (.ring ring k) → exec .strokeShortCut s = .next u) ∧
        ∀ office tag, s.bell.current = some (.test office tag) →
          exec .strokeShortCut s =
            .next (offerReply { destination := office, kind := 0x11#8, tag := tag, status := .done,
                                data := put1 1 ++ put2 0 ++ put2 s.bell.highest } u)) ∧
      ∀ timer, s.bell.timer = some timer → timer.duration ≤ elapsedSince s.now timer.start →
        (∀ ring k, s.bell.sounder = .gap → s.bell.current = some (.ring ring (k + 1)) →
          exec .gapEnd s = .next { s with bell := { s.bell with
            sounder := .striking, current := some (.ring ring k),
            timer := some { start := s.now, duration := ring.pattern.strokeLength },
            sum := 0, number := 0, aboveRun := 0, highest := 0 } }) ∧
        (s.bell.sounder = .pause → s.bell.queue = [] →
          exec .pauseEnd s = .next { s with bell := { s.bell with sounder := .quiet, timer := none } }) ∧
        (∀ ring later, s.bell.sounder = .pause → s.bell.state = .ready → s.bell.queue = ring :: later →
          exec .pauseEnd s = .next { s with bell := { s.bell with
            queue := later, sounder := .striking, current := some (.ring ring (ring.pattern.strokes - 1)),
            timer := some { start := s.now, duration := ring.pattern.strokeLength },
            sum := 0, number := 0, aboveRun := 0, highest := 0 } }) ∧
        (s.bell.sounder = .pause → s.bell.state ≠ .ready → s.bell.queue ≠ [] →
          exec .pauseEnd s = .next (addCount .bellSkipped s.bell.queue.length
            { s with bell := { s.bell with queue := [], sounder := .quiet, timer := none } }))

/-- A Ring Now joins a ring queue with room, sounding at once on a QUIET, READY bell, skipped and counted on a QUIET, faulted one,
where it is answered DONE all the same, and is refused by a full queue; a Bell Test is taken while the sounder is QUIET, with its
reply to come, and is answered WRONG STATE otherwise. -/
def Obligations.OfficeRingsAndTests : Prop :=
  ∀ (s : State) (office dest : Nat) (tag : Byte) (rest : List RxFrame),
    (∀ pattern, (∀ n, pattern = .continuous n → 1 ≤ n ∧ n ≤ 30) →
      requestReady s office dest 0x08#8 tag [pattern.byte] rest →
      (4 ≤ s.bell.queue.length → dest ≠ 0 →
        exec .ringNow s = .next (answered office dest 0x08#8 tag .wrongState [] (taken s rest))) ∧
        (4 ≤ s.bell.queue.length → dest = 0 → exec .ringNow s = .next (bump .ringDropped (taken s rest))) ∧
        (s.bell.queue.length < 4 → s.bell.sounder ≠ .quiet →
          exec .ringNow s = .next (answered office dest 0x08#8 tag .done []
            { taken s rest with
              bell := { s.bell with queue := s.bell.queue ++ [{ pattern := pattern, origin := .ringNow }] } })) ∧
        (s.bell.queue = [] → s.bell.sounder = .quiet → s.bell.state ≠ .ready →
          exec .ringNow s = .next (answered office dest 0x08#8 tag .done [] (bump .bellSkipped (taken s rest)))) ∧
        (s.bell.queue = [] → s.bell.sounder = .quiet → s.bell.state = .ready →
          exec .ringNow s = .next (answered office dest 0x08#8 tag .done []
            { taken s rest with bell := { s.bell with
                sounder := .striking, current := some (.ring { pattern := pattern, origin := .ringNow } (pattern.strokes - 1)),
                timer := some { start := s.now, duration := pattern.strokeLength },
                sum := 0, number := 0, aboveRun := 0, highest := 0 } }))) ∧
      (dest ≠ 0 → requestReady s office dest 0x11#8 tag [] rest →
        (s.bell.sounder = .quiet →
          exec .bellTest s = .next { taken s rest with bell := { s.bell with
            sounder := .striking, current := some (.test office tag), timer := some { start := s.now, duration := 1000 },
            sum := 0, number := 0, aboveRun := 0, highest := 0 } }) ∧
          (s.bell.sounder ≠ .quiet →
            exec .bellTest s = .next (answered office dest 0x11#8 tag .wrongState [] (taken s rest))))

/-! ### The gate line -/

/-- A start bit is confirmed by two of its three middle samples and sets the idle count back; each character time advances the shift
generator; an attempt on the head begins once the line has been idle for 4 character times and the backoff. A character time of an
own attempt without a confirmed start bit is a collision: it ends the attempt and draws a backoff, or at the sixteenth attempt gives
the frame up. How the idle count takes a character time, and which value of the generator a backoff is drawn from, is the model's
reading (log entry 14), and an attempt that is not due leaves the state unchanged (log entry 6). -/
def Obligations.LineKeepsItsTime : Prop :=
  ∀ s : State, running s = true →
    (∀ cell : BitCell, s.line.receiving = false →
      ((cell.s7 = false ∧ cell.s8 = false) ∨ (cell.s7 = false ∧ cell.s9 = false) ∨ (cell.s8 = false ∧ cell.s9 = false) →
        exec (.startBitConfirmed cell) s =
          .next { s with line := { s.line with receiving := true, startSeen := true, idle := 0 } }) ∧
        ((cell.s7 = true ∧ cell.s8 = true) ∨ (cell.s7 = true ∧ cell.s9 = true) ∨ (cell.s8 = true ∧ cell.s9 = true) →
          exec (.startBitConfirmed cell) s = .next s)) ∧
      (s.line.attempt = none →
        exec .characterTimeEnd s =
          .next { s with line := { s.line with
            generator := (if s.line.generator.getLsbD 0 then (s.line.generator >>> 1) ^^^ 0xB400#16 else s.line.generator >>> 1),
            idle := (if s.line.startSeen || s.line.charSeen || s.line.receiving then 0 else s.line.idle + 1),
            startSeen := false, charSeen := false } }) ∧
      (∀ (a : Attempt) (u : State), s.line.attempt = some a →
        u = { s with line := { s.line with
          generator := (if s.line.generator.getLsbD 0 then (s.line.generator >>> 1) ^^^ 0xB400#16 else s.line.generator >>> 1),
          idle := 0, startSeen := false, charSeen := false } } →
        (s.line.startSeen = true → exec .characterTimeEnd s = .next u) ∧
        (s.line.startSeen = false → ∀ p n later, s.line.tx = { payload := p, attempts := n } :: later →
          (n ≠ 16 →
            exec .characterTimeEnd s = .next (bump .collision { u with line := { u.line with
              attempt := none, backoff := u.line.generator.toNat % 2 ^ min n 6 } })) ∧
          (n = 16 → ∃ t, exec .characterTimeEnd s = .next (testHead t) ∧
            t.line = { u.line with tx := later, attempt := none, backoff := 0 } ∧
            t.counter .collision = min 65535 (s.counter .collision + 1) ∧
            t.counter .frameGiveUp = min 65535 (s.counter .frameGiveUp + 1) ∧
            (∀ reply, p = .reply reply → t.counter .replyDropped = min 65535 (s.counter .replyDropped + 1)) ∧
            ((∀ reply, p ≠ .reply reply) → t.counter .replyDropped = s.counter .replyDropped) ∧
            (∀ k, k ≠ .collision → k ≠ .frameGiveUp → k ≠ .replyDropped → t.counter k = s.counter k) ∧
            t.journal = journalMarked p .lost s.journal ∧ t.restart = restartAfter p s.restart ∧
            t = { s with line := t.line, journal := t.journal, restart := t.restart, counters := t.counters }))) ∧
      ∀ p n later, s.line.tx = { payload := p, attempts := n } :: later → s.line.attempt = none →
        (4 + s.line.backoff ≤ s.line.idle →
          exec .sendAttemptStart s =
            .next { s with line := { s.line with tx := { payload := p, attempts := n + 1 } :: later,
                                                 attempt := some { bytes := p.frame s, done := 0 } } }) ∧
          (s.line.idle < 4 + s.line.backoff → exec .sendAttemptStart s = .next s)

/-- What a character does. Outside an own attempt the assembler takes it: a marked one begins a frame, cutting off one in assembly;
an unmarked one is discarded in HUNT and extends a frame; a body longer than 56 is malformed; a whole frame is tested and buffered;
a framing error abandons the frame. In an own attempt a character read back equal goes on with it, the last one completes the frame,
and any other, or a framing error, is a collision, which draws a backoff or, at the sixteenth attempt, gives the frame up. In an
attempt past its head the assembler holds the characters sent: each was fed to it. The value of the generator a backoff is drawn
from is the model's reading (log entry 14). -/
def Obligations.CharactersAreTaken : Prop :=
  ∀ (s u : State) (cells : CharCells) (data : Byte) (mark : Bool), running s = true → s.line.receiving = true →
    u = { s with line := { s.line with receiving := false, idle := 0, charSeen := true } } →
    (s.line.attempt = none →
      (receiveCells cells = .framingError →
        exec (.characterReceived cells) s = .next (bump .lineFramingError { u with line := { u.line with assembly := none } })) ∧
      (receiveCells cells = .char data mark →
        (s.line.assembly = none →
          exec (.characterReceived cells) s =
            .next (if mark then { u with line := { u.line with assembly := some [data] } } else u)) ∧
        ∀ begun, s.line.assembly = some begun →
          (mark = true →
            exec (.characterReceived cells) s =
              .next (bump .frameTruncated { u with line := { u.line with assembly := some [data] } })) ∧
          (mark = false → ∀ (bytes : List Byte) (v : State), bytes = begun ++ [data] →
            v = { u with line := { u.line with assembly := none } } →
            (bytes.length = 2 → 56 < (getByte bytes 1).toNat →
              exec (.characterReceived cells) s = .next (bump .frameMalformed v)) ∧
            (bytes.length < 2 ∨ (bytes.length = 2 ∧ (getByte bytes 1).toNat ≤ 56) ∨
                (2 < bytes.length ∧ bytes.length ≠ (getByte bytes 1).toNat + 6) →
              exec (.characterReceived cells) s = .next { u with line := { u.line with assembly := some bytes } }) ∧
            (2 < bytes.length → bytes.length = (getByte bytes 1).toNat + 6 → ∃ t, exec (.characterReceived cells) s = .next t ∧
              frameTested v t bytes)))) ∧
      ∀ bytes done kind source dest body p n later, s.line.attempt = some { bytes := bytes, done := done } →
        s.line.tx = { payload := p, attempts := n } :: later → bytes = frameBytes kind source dest body → body.length ≤ 56 →
        done < bytes.length → (0 < done → s.line.assembly = some (bytes.take done)) →
        (receiveCells cells = .char data mark → data = getByte bytes done → mark = decide (done = 0) →
          (bytes.length ≠ done + 1 → ∃ t, exec (.characterReceived cells) s = .next t ∧
            t.line = { u.line with attempt := some { bytes := bytes, done := done + 1 },
                                   assembly := some (bytes.take (done + 1)) } ∧
            t.counters = (bumpIf (decide (done = 0) && s.line.assembly.isSome) .frameTruncated s).counters ∧
            t = { s with line := t.line, counters := t.counters }) ∧
          (bytes.length = done + 1 → ∃ t, exec (.characterReceived cells) s = .next (testHead t) ∧
            t.line = { u.line with tx := later, backoff := 0, attempt := none, assembly := none } ∧
            t.journal = journalMarked p .sent s.journal ∧ t.restart = restartAfter p s.restart ∧
            t = { s with line := t.line, journal := t.journal, restart := t.restart })) ∧
        (receiveCells cells = .framingError ∨
            (receiveCells cells = .char data mark ∧ (data ≠ getByte bytes done ∨ mark ≠ decide (done = 0))) →
          (receiveCells cells = .framingError → ∃ t, exec (.characterReceived cells) s = .next t ∧ t.line.assembly = none ∧
            t.counter .lineFramingError = min 65535 (s.counter .lineFramingError + 1)) ∧
          (n ≠ 16 → ∃ t, exec (.characterReceived cells) s = .next t ∧
            t.line = { u.line with attempt := none, backoff := s.line.generator.toNat % 2 ^ min n 6,
                                   assembly := t.line.assembly, rx := t.line.rx } ∧
            t.counter .collision = min 65535 (s.counter .collision + 1) ∧
            (receiveCells cells = .framingError ∨ 0 < done ∨ mark = true ∨ s.line.assembly = none →
              t.line.rx = s.line.rx ∧ t.peers = s.peers) ∧
            t = { s with line := t.line, counters := t.counters, peers := t.peers }) ∧
          (n = 16 → ∃ t, exec (.characterReceived cells) s = .next (testHead t) ∧
            t.line = { u.line with tx := later, attempt := none, backoff := 0, assembly := t.line.assembly, rx := t.line.rx } ∧
            t.counter .collision = min 65535 (s.counter .collision + 1) ∧
            t.counter .frameGiveUp = min 65535 (s.counter .frameGiveUp + 1) ∧
            (∀ reply, p = .reply reply → t.counter .replyDropped = min 65535 (s.counter .replyDropped + 1)) ∧
            t.journal = journalMarked p .lost s.journal ∧ t.restart = restartAfter p s.restart ∧
            (receiveCells cells = .framingError ∨ 0 < done ∨ mark = true ∨ s.line.assembly = none →
              t.line.rx = s.line.rx ∧ t.peers = s.peers) ∧
            t = { s with line := t.line, journal := t.journal, restart := t.restart, counters := t.counters,
                         peers := t.peers }))

/-- The bodies a station sends, each number high byte first. A PUNCH notice is written by its layout, an absent occurrence start
with every bit 1; one whose fields lie in the ranges of that layout is read back from its bytes, part by part and bit by bit; so are
the station's BEACON, which holds its zone, its status flags, its clock and its record count, and a RING notice. A REPLY begins with
the request kind, the tag and the status. Each frame carries the own station number, and destination 0 but for a reply. -/
def Obligations.PunchNoticesReadBack : Prop :=
  (∀ (s : State) (b : BeaconBody), s.settings.zone < 256 → s.clock.stamp.fits → s.roster.length < 65536 →
    b = { roleCode := 1, zone := s.settings.zone, stamp := s.clock.stamp, records := s.roster.length
          flags := { clockSet := s.clock.isSet, isolated := isolated s, bellFault := decide (s.bell.state ≠ .ready)
                     duplicate := s.peers.duplicate.isSome } } →
    TxPayload.beacon.frame s = frameBytes .beacon s.settings.station 0 b.bytes ∧ getBeacon b.bytes = b ∧
      lengthPermitted .beacon b.bytes = true ∧
      b.bytes =
        put1 1 ++ put1 s.settings.zone ++
          put1 ((if s.clock.isSet then 1 else 0) + (if isolated s then 2 else 0) + (if s.bell.state = .ready then 0 else 4) +
            (if s.peers.duplicate.isSome then 8 else 0)) ++
          put2 s.clock.week ++ put2 s.clock.minute ++ put1 s.clock.second ++ put2 s.roster.length) ∧
  (∀ (s : State) (r : RingNotice), r.zone < 256 → r.index < 256 → r.week < 65536 → r.day < 256 → r.minute < 65536 →
    (∀ k, r.pattern = .continuous k → k < 32) →
    (TxPayload.ring r).frame s = frameBytes .ring s.settings.station 0 r.bytes ∧ getRing r.bytes = r ∧
      lengthPermitted .ring r.bytes = true ∧
      r.bytes =
        put1 r.zone ++ put1 r.index ++ put2 r.week ++ put1 r.day ++ put2 r.minute ++
          put1 (match r.pattern with | .long => 0 | .double => 64 | .triple => 128 | .continuous k => 192 + k)) ∧
  (∀ (s : State) (r : Reply),
    (TxPayload.reply r).frame s = frameBytes .reply s.settings.station r.destination r.bytes ∧
      r.bytes = [r.kind, r.tag] ++
        put1 (match r.status with | .done => 0 | .noRecord => 1 | .full => 2 | .badValue => 3 | .wrongState => 4) ++ r.data) ∧
  (∀ n, put1 n = [BitVec.ofNat 8 n] ∧ put2 n = [BitVec.ofNat 8 (n / 256), BitVec.ofNat 8 n] ∧
    put3 n = [BitVec.ofNat 8 (n / 65536), BitVec.ofNat 8 (n / 256), BitVec.ofNat 8 n] ∧
    put4 n = [BitVec.ofNat 8 (n / 16777216), BitVec.ofNat 8 (n / 65536), BitVec.ofNat 8 (n / 256), BitVec.ofNat 8 n]) ∧
  (∀ (n : PunchNotice) (stampBytes : Stamp → List Byte) (startBytes : Option Nat → List Byte),
    (∀ a, stampBytes a = put2 a.week ++ put2 a.minute ++ put1 a.second) →
    startBytes none = [0xFF#8, 0xFF#8, 0xFF#8, 0xFF#8] → (∀ a, startBytes (some a) = put4 a) →
    n.bytes =
      put2 n.sequence ++ put3 n.badge ++
        put1 ((if n.direction = .outward then 1 else 0) + (if n.occurrence.isSome then 2 else 0) +
          (if n.superseded.isSome then 4 else 0) + (if n.result.isSome then 8 else 0)) ++
        put1 ((if n.flags.softPassback then 1 else 0) + (if n.flags.unpaired then 2 else 0) + (if n.flags.crossed then 4 else 0) +
          (if n.flags.delivered then 8 else 0)) ++
        stampBytes n.stamp ++
        (match n.occurrence with
         | none => []
         | some o =>
           put1 o.code ++ put1 (match o.kind with | .scheduled => 0 | .offDay => 1 | .noShift => 2) ++ startBytes o.start) ++
        (match n.superseded with
         | none => []
         | some k => stampBytes k.stamp ++ put1 k.station) ++
        (match n.result with
         | none => []
         | some r =>
           stampBytes r.key.stamp ++ put1 r.key.station ++ startBytes r.start ++ put4 r.effIn ++ put4 r.effOut ++ put2 r.regular ++
             put2 r.ot1 ++ put2 r.ot2 ++ put2 r.night ++ put2 r.breakMinutes ++ put2 r.credits ++ put3 r.pay ++
             put1 ((if r.flags.offDay then 1 else 0) + (if r.flags.noShift then 2 else 0) + (if r.flags.nullSpan then 4 else 0) +
               (if r.flags.negative then 8 else 0) + (if r.flags.overlong then 16 else 0) +
               (if r.flags.breakDeducted then 32 else 0) + (if r.flags.stale then 64 else 0)))) ∧
  (∀ (s : State) (n : PunchNotice), (TxPayload.punch n).frame s = frameBytes .punch s.settings.station 0 n.bytes) ∧
  ∀ n : PunchNotice, n.sequence < 65536 → n.badge < 16777216 → n.stamp.fits → (∀ o, n.occurrence = some o → o.fits) →
    (∀ k, n.superseded = some k → k.fits) → (∀ r, n.result = some r → r.fits) →
    getPunch n.bytes = some n ∧ lengthPermitted .punch n.bytes = true

/-- A frame that a station sends, heard whole by another station in HUNT, character by character with the head marked: it passes its
check and joins the receive buffer, when its destination is all stations or the hearer and its length is permitted for its kind. The
check is the remainder by the polynomial 0x1021 over the frame's bytes, bit by bit from the most significant, from 0xFFFF, sent high
byte first. -/
def Obligations.SentFramesAreHeard : Prop :=
  crc [] = 0xFFFF#16 ∧
  (∀ (bytes : List Byte) (b : Byte),
    crc (bytes ++ [b]) = (List.range 8).foldl
      (fun (r : BitVec 16) i => if r.getLsbD 15 ^^ b.getLsbD (7 - i) then (r <<< 1) ^^^ 0x1021#16 else r <<< 1) (crc bytes)) ∧
  (∀ (kind : FrameKind) (source dest : Nat) (body bytes : List Byte),
    bytes = [(match kind with | .punch => 0x01#8 | .ring => 0x03#8 | .request => 0x07#8 | .reply => 0x0F#8 | .beacon => 0x1F#8),
      byteOf body.length, byteOf source, byteOf dest] ++ body →
    frameBytes kind source dest body =
      bytes ++ [BitVec.ofNat 8 ((crc bytes).toNat / 256), BitVec.ofNat 8 ((crc bytes).toNat % 256)]) ∧
  (∀ (kind : FrameKind) (body : List Byte), lengthPermitted kind body = true ↔
    (kind = .beacon ∧ body.length = 10) ∨ (kind = .ring ∧ body.length = 8) ∨
      (kind = .request ∧ 2 ≤ body.length ∧ body.length ≤ 56) ∨ (kind = .reply ∧ 3 ≤ body.length ∧ body.length ≤ 56) ∨
      (kind = .punch ∧ 12 ≤ body.length ∧
        body.length = 12 + (if (getByte body 5).getLsbD 1 then 6 else 0) + (if (getByte body 5).getLsbD 2 then 6 else 0) +
          (if (getByte body 5).getLsbD 3 then 34 else 0))) ∧
  ∀ (s : State) (kind : FrameKind) (source dest : Nat) (body : List Byte),
    kind ≠ .reply → source < 256 → dest < 256 → source ≠ s.settings.station → (dest = 0 ∨ dest = s.settings.station) →
    lengthPermitted kind body = true → body.length ≤ 56 → s.line.assembly = none → s.line.rx.length < 4 →
    ∀ head tail, frameBytes kind source dest body = head :: tail →
      tail.foldl (fun t b => assemble b false false t) (assemble head true false s) =
        { s with line := { s.line with
          rx := s.line.rx ++ [{ kind := kind, source := source, destination := dest, body := body }] } }

/-! ### Requests and the panel -/

/-- Set Message replaces the text at its index; a Restart is pending until its reply has left, or its warm start is due at once when
the reply finds no place. A request from no office, of an unknown kind, broadcast where its kind must be addressed, with parameters
of another length or out of their ranges is ignored and counted, or answered BAD VALUE when addressed; while a Restart is pending
every request is discarded. A reply joins the tail of the transmit queue, or is dropped and counted when there is no slot. The
moment between the reply and the warm start is a state of the model's (log entry 13). -/
def Obligations.MessagesRestartsAndStrangers : Prop :=
  (∀ (s : State) (r : Reply),
      (s.line.tx.length + s.line.reserved < 16 →
        queuedFrame s (offerReply r s) (.reply r) ∧ offerReply r s = { s with line := (offerReply r s).line }) ∧
        (16 ≤ s.line.tx.length + s.line.reserved → offerReply r s = bump .replyDropped s)) ∧
  (∀ (s : State) (office dest index : Nat) (tag : Byte) (text : List Byte) (rest : List RxFrame), text.length = 16 → 1 ≤ index →
      index ≤ 8 → requestReady s office dest 0x06#8 tag (put1 index ++ text) rest →
      exec .setMessage s = .next (answered office dest 0x06#8 tag .done []
        { taken s rest with panel := { s.panel with messages := s.panel.messages.set (index - 1) text } })) ∧
    (∀ (s : State) (office dest : Nat) (tag : Byte) (rest : List RxFrame), dest ≠ 0 → requestReady s office dest 0x16#8 tag [] rest →
      (s.line.tx.length + s.line.reserved < 16 →
        exec .restart s = .next (answered office dest 0x16#8 tag .done [] { taken s rest with restart := .pending })) ∧
        (16 ≤ s.line.tx.length + s.line.reserved →
          exec .restart s = .next (bump .replyDropped { taken s rest with restart := .replyLeft }))) ∧
    (∀ (s : State) (f : RxFrame) (rest : List RxFrame) (code : Byte), running s = true → s.line.rx = f :: rest →
      f.kind = .request → code = getByte f.body 0 →
      (s.restart = .none → (f.source < 56 ∨ 63 < f.source) →
        exec .requestInvalid s = .next (bump .foreignSource (taken s rest))) ∧
      (s.restart = .none → 56 ≤ f.source → f.source ≤ 63 →
          (code = 0 ∨ (0x09#8 < code ∧ code < 0x10#8) ∨ 0x16#8 < code) →
        (f.destination = 0 → exec .requestInvalid s = .next (bump .requestInvalid (taken s rest))) ∧
        (f.destination ≠ 0 →
          exec .requestInvalid s =
            .next (answered f.source f.destination code (getByte f.body 1) .badValue [] (taken s rest)))) ∧
      (s.restart ≠ .none →
          (f.source < 56 ∨ 63 < f.source ∨ code = 0 ∨ (0x09#8 < code ∧ code < 0x10#8) ∨ 0x16#8 < code) →
        exec .requestInvalid s = .next (taken s rest))) ∧
    ∀ row ∈ requestRows, ∀ (s : State) (office dest : Nat) (tag : Byte) (params : List Byte) (rest : List RxFrame),
      running s = true → 56 ≤ office → office ≤ 63 → s.line.rx = requestFrame office dest row.code tag params :: rest →
      (s.restart ≠ .none → exec row.command s = .next (taken s rest)) ∧
      (s.restart = .none → dest = 0 → row.broadcast = false → exec row.command s = .next (bump .notBroadcast (taken s rest))) ∧
      (s.restart = .none → (dest ≠ 0 ∨ row.broadcast = true) →
          (params.length ≠ row.length ∨ (params.length = row.length ∧ paramsOutOfRange row.code params)) →
        (dest = 0 → exec row.command s = .next (bump .requestInvalid (taken s rest))) ∧
        (dest ≠ 0 → exec row.command s = .next (answered office dest row.code tag .badValue [] (taken s rest))))

/-- The reading requests change no state but the transmit queue: each is answered from the owner's state as it stands, with the data
its layout gives: a record; at most 4 records' totals of one tag from a starting badge, with the next badge; at most 6 journal
entries of one week from a sequence, or NO RECORD with the oldest and the next; and the condition, the counters in index order or
the peers. -/
def Obligations.ReadingRequestsReport : Prop :=
  ∀ (s : State) (office dest : Nat) (tag : Byte) (rest : List RxFrame), dest ≠ 0 →
    (∀ badge, 1 ≤ badge → badge ≤ 16777214 → requestReady s office dest 0x12#8 tag (put3 badge) rest →
      (s.record badge = none → exec .readRecord s = .next (answered office dest 0x12#8 tag .noRecord [] (taken s rest))) ∧
        ∀ x, s.record badge = some x →
          exec .readRecord s = .next (answered office dest 0x12#8 tag .done x.bytes (taken s rest)) ∧ x.bytes = recordData x) ∧
      (∀ slot part start, slot ≤ 1 → part ≤ 1 → start < 16777216 →
        requestReady s office dest 0x13#8 tag (put1 slot ++ put1 part ++ put3 start) rest →
        ∃ data, exec .readTotals s = .next (answered office dest 0x13#8 tag .done data (taken s rest)) ∧
          data = totalsReply s.roster (decide (slot = 1)) (decide (part = 1)) start ∧
          totalsReported s.roster slot part start data) ∧
      (∀ seq, seq < 65536 → requestReady s office dest 0x14#8 tag (put2 seq) rest →
        ∃ status data, exec .readJournal s = .next (answered office dest 0x14#8 tag status data (taken s rest)) ∧
          (status, data) = journalReply s.journal seq ∧ journalReported s.journal seq status data) ∧
      ∀ index, index < 256 →
        (requestReady s office dest 0x15#8 tag (put1 0 ++ put1 index) rest →
          ∃ data, exec .readStatus s = .next (answered office dest 0x15#8 tag .done data (taken s rest)) ∧
            data = conditionData (taken s rest) ∧
            data =
              put1 (match s.starts.cause with | .cold => 0 | .warm => 1 | .powerReturn => 2) ++
              put1 ((if s.clock.isSet then 1 else 0) + (if isolated s then 2 else 0) +
                (if s.peers.duplicate.isSome then 4 else 0) + (if s.bell.state = .ready then 0 else 8)) ++
              put2 s.clock.week ++ put2 s.clock.minute ++ put1 s.clock.second ++
              put1 (match s.gate.cycle with
                | .off => 0 | .idle => 1 | .released => 2 | .passing => 3 | .heldOpen => 4 | .forced => 5 | .free => 6) ++
              put1 (match s.bell.state with | .ready => 0 | .faultedShort => 1 | .faultedOpen => 2) ++
              (match s.bell.rush with | none => ones 4 | some stop => put4 stop) ++ put1 s.waiting.length ++
              put1 s.line.tx.length ++ put1 s.line.reserved ++ put2 s.roster.length ++ put1 s.peers.entries.length ++
              putSigned2 s.timebase.trim ++ put2 s.settings.sum ++
              put1 (match s.pendingPunch with
                | none => 0 | some p => if p.kind = .punch then 1 else 2)) ∧
        (requestReady s office dest 0x15#8 tag (put1 1 ++ put1 index) rest →
          ∃ data, exec .readStatus s = .next (answered office dest 0x15#8 tag .done data (taken s rest)) ∧
            data = countersData s index ∧
            ∀ l, l = ((counterRows.map (fun c => match c with | some c => s.counter c | none => s.counters.get 18)).drop index).take
                24 → data = put1 index ++ put1 l.length ++ (l.map put2).flatten) ∧
        (requestReady s office dest 0x15#8 tag (put1 2 ++ put1 index) rest →
          ∃ data, exec .readStatus s = .next (answered office dest 0x15#8 tag .done data (taken s rest)) ∧
            data = peersData s index ∧
            ∀ l, l = (s.peers.entries.drop index).take 8 →
              data = put1 index ++ put1 l.length ++ put1 s.peers.entries.length ++ (l.map (fun p =>
                put1 p.station ++
                put1 ((if p.role = .office then 1 else 0) + (if p.state = .silent then 2 else 0) + (if p.lagging then 4 else 0) +
                  (if p.flags.clockSet then 16 else 0) + (if p.flags.isolated then 32 else 0) +
                  (if p.flags.bellFault then 64 else 0) + (if p.flags.duplicate then 128 else 0)) ++
                put1 p.zone ++ put2 p.age ++ put1 (p.offset + 127).toNat)).flatten)

/-- At the expiry of the overlay timer the saved text returns to row 1 and is sent; when a transfer ends, the next marked row is
sent, row 1 before row 2. A row's text is 16 codes, padded with spaces, with a space for each code that is not printable. The clock
row holds the day and the time of day, dashes while CLOCK SET is false; a refusal's text names its reason. That a transfer keeps the
codes its row held at its start is the model's choice (log entry 26). -/
def Obligations.PanelReturnsAndSends : Prop :=
  (∀ (text : List Byte) (i : Nat), (rowText text).length = 16 ∧
    (i < 16 → (rowText text).getD i 0 =
      (if 0x20#8 ≤ text.getD i 0x20#8 ∧ text.getD i 0x20#8 ≤ 0x7E#8 then text.getD i 0x20#8 else 0x20#8))) ∧
  (∀ minute, clockRow false minute = rowText (textBytes "--- --:--") ∧
    (minute < 10080 → ∀ hour past, hour = minute % 1440 / 60 → past = minute % 60 →
      clockRow true minute = rowText
        (textBytes (["MON ", "TUE ", "WED ", "THU ", "FRI ", "SAT ", "SUN "].getD (minute / 1440) "") ++
          [byteOf (48 + hour / 10), byteOf (48 + hour % 10), 58#8, byteOf (48 + past / 10), byteOf (48 + past % 10)]))) ∧
  (∀ reason : Reason, refusalText reason = rowText (textBytes
    (match reason with
     | .badRead => "REFUSED BAD READ"
     | .wrongSite => "REFUSED SITE"
     | .gateBusy => "REFUSED BUSY"
     | .waitTimeout => "REFUSED TIMEOUT"
     | .noTime => "REFUSED NO TIME"
     | .unknown => "REFUSED UNKNOWN"
     | .barred => "REFUSED BARRED"
     | .leaving => "REFUSED LEAVING"
     | .passback => "REFUSED PASSBACK"))) ∧
  ∀ s : State, panelRuns s = true →
    (∀ o, s.panel.overlay = some o → o.timer.duration ≤ elapsedSince s.now o.timer.start →
      ∃ t, exec .panelOverlayExpiry s = .next t ∧ t.panel.row1 = o.saved ∧ t.panel.overlay = none ∧
        t.panel.row2 = s.panel.row2 ∧ t.panel.messages = s.panel.messages ∧
        (s.panel.row1 ≠ o.saved → s.panel.transfer = none → t.panel.transfer = some { row := .one, codes := o.saved }) ∧
        (s.panel.row1 ≠ o.saved → s.panel.transfer.isSome = true → t.panel.mark1 = true) ∧
        (s.panel.row1 = o.saved → t.panel = { s.panel with overlay := none }) ∧ t = { s with panel := t.panel }) ∧
      (s.panel.transfer.isSome = true →
        (s.panel.mark1 = true →
          exec .panelTransferComplete s = .next { s with panel := { s.panel with
            mark1 := false, transfer := some { row := .one, codes := s.panel.row1 } } }) ∧
          (s.panel.mark1 = false → s.panel.mark2 = true →
            exec .panelTransferComplete s = .next { s with panel := { s.panel with
              mark2 := false, transfer := some { row := .two, codes := s.panel.row2 } } }) ∧
          (s.panel.mark1 = false → s.panel.mark2 = false →
            exec .panelTransferComplete s = .next { s with panel := { s.panel with transfer := none } }))

/-! ### Invariants that every step keeps -/

/-- Frames held in the transmit queue plus outstanding reservations never exceed 16, and the reservations are those of the pending
punch, which waits in RELEASED. While the reset pin is held a pending punch stands in OFF (log entry 10). -/
def Obligations.TransmitQueueIsKept : Prop :=
  ∀ s t : State, transmitQueueHolds s → step s = .next t → transmitQueueHolds t

/-- The roster stays in ascending badge number with at most 1,024 records, each with its fields in their ranges and an open interval
exactly while its presence is IN. -/
def Obligations.RosterIsKept : Prop := ∀ s t : State, rosterHolds s → step s = .next t → rosterHolds t

/-- The journal keeps at most 512 entries with consecutive sequences, the newest one less than the next sequence, and only ADMITTED
entries carry flags and an announcement state. -/
def Obligations.JournalIsKept : Prop := ∀ s t : State, journalHolds s → step s = .next t → journalHolds t

/-- The lists keep within their capacities, the counters within 65,535, and the gate's two timers run exactly in RELEASED and
PASSING. -/
def Obligations.CapacitiesAreKept : Prop := ∀ s t : State, capacitiesHold s → step s = .next t → capacitiesHold t

/-- Without the main supply the gate is OFF, nothing is sent, read, rung or shown, and no request is pending, whatever command
comes. A station without any supply is included (log entry 3). -/
def Obligations.BackupStaysQuiet : Prop :=
  ∀ s t : State, quietWithoutMain s → step s = .next t →
    quietWithoutMain t ∧
      (t.starts.supply ≠ .main → releaseOutput t = false ∧ alarmOutput t = false ∧ bellOutput t = false ∧ lineDrive t = none)
end

