-- ==== Sys2Proof/Laws/Bytes.lean ====
section
/-! SUPPORT. How bytes are read back: a number or a stamp put at the front of a body, a skipped prefix, and the bits of a byte of
flags. -/

namespace Sys2Proof.Machine

theorem get_put1 (n : Nat) (h : n < 256) (l : List Byte) : Machine.get (put1 n ++ l) 0 1 = n := by
  simp [Machine.get, slice, put1, getNat, byteOf]; omega

theorem get_put2 (n : Nat) (h : n < 65536) (l : List Byte) : Machine.get (put2 n ++ l) 0 2 = n := by
  simp [Machine.get, slice, put2, getNat, byteOf]; omega

theorem get_put3 (n : Nat) (h : n < 16777216) (l : List Byte) : Machine.get (put3 n ++ l) 0 3 = n := by
  simp [Machine.get, slice, put3, put2, getNat, byteOf]; omega

theorem get_put4 (n : Nat) (h : n < 4294967296) (l : List Byte) : Machine.get (put4 n ++ l) 0 4 = n := by
  simp [Machine.get, slice, put4, put3, put2, getNat, byteOf]; omega

/-- An offset behind a prefix is an offset of what follows it. -/
theorem get_append (a l : List Byte) (i k j : Nat) (h : i = a.length + j) : Machine.get (a ++ l) i k = Machine.get l j k := by
  subst h; simp [Machine.get, slice, List.drop_append, List.drop_eq_nil_of_le]

theorem getByte_append (a l : List Byte) (i j : Nat) (h : i = a.length + j) : getByte (a ++ l) i = getByte l j := by
  unfold getByte; subst h
  rw [List.getD_eq_getElem?_getD, List.getElem?_append_right (by omega)]; simp

@[simp] theorem length_put1 (n : Nat) : (put1 n).length = 1 := rfl
@[simp] theorem length_put2 (n : Nat) : (put2 n).length = 2 := rfl
@[simp] theorem length_put3 (n : Nat) : (put3 n).length = 3 := rfl
@[simp] theorem length_put4 (n : Nat) : (put4 n).length = 4 := rfl
@[simp] theorem length_putStamp (a : Stamp) : (putStamp a).length = 5 := rfl

theorem getStamp_putStamp (a : Stamp) (h : a.fits) (l : List Byte) : getStamp (putStamp a ++ l) 0 = a := by
  unfold getStamp putStamp
  simp only [List.append_assoc]
  rw [get_put2 _ h.1, get_append (put2 a.week) _ (0 + 2) 2 0 rfl, get_put2 _ h.2.1, get_append (put2 a.week) _ (0 + 4) 1 2 rfl,
    get_append (put2 a.minute) _ 2 1 0 rfl, get_put1 _ h.2.2]

/-- Four flags at bits 0 to 3 of a byte are read back bit by bit. -/
theorem flagBits_read (a b c d : Bool) :
    (byteOf (flagBit 0 a + flagBit 1 b + flagBit 2 c + flagBit 3 d)).getLsbD 0 = a ∧
      (byteOf (flagBit 0 a + flagBit 1 b + flagBit 2 c + flagBit 3 d)).getLsbD 1 = b ∧
      (byteOf (flagBit 0 a + flagBit 1 b + flagBit 2 c + flagBit 3 d)).getLsbD 2 = c ∧
      (byteOf (flagBit 0 a + flagBit 1 b + flagBit 2 c + flagBit 3 d)).getLsbD 3 = d := by
  revert a b c d; decide

end Sys2Proof.Machine
end

