-- ==== Sys2Proof/Laws/Changes.lean ====
section
/-! SUPPORT. What each shared operation may change: its result is the state it was given with the named fields replaced, and every
other field as it was. A frame is read off by rewriting with the lemma of the operation. -/

namespace Sys2Proof.Machine

/-! ### Counters, channels, journal, panel -/

theorem addCount_changes (c : Counter) (n : Nat) (s : State) : ∃ k, addCount c n s = { s with counters := k } := ⟨_, rfl⟩

theorem bump_changes (c : Counter) (s : State) : ∃ k, bump c s = { s with counters := k } := ⟨_, rfl⟩

theorem bumpIf_changes (b : Bool) (c : Counter) (s : State) : ∃ k, bumpIf b c s = { s with counters := k } := by
  cases b <;> exact ⟨_, rfl⟩

theorem setChannel_changes (s : State) (r : Reader) (c : Channel) :
    ∃ e x, s.setChannel r c = { s with entryChannel := e, exitChannel := x } := by
  cases r <;> exact ⟨_, _, rfl⟩

theorem testHead_changes (s : State) : ∃ w k, testHead s = { s with waiting := w, counters := k } := by
  unfold testHead
  split
  · exact ⟨_, _, rfl⟩
  · split <;> exact ⟨_, _, rfl⟩

theorem writeJournal_changes (stamp : Stamp) (r : Option Reader) (b : Option Nat) (o : JournalOutcome) (a : Announcement)
    (f : Option PunchFlags) (s : State) :
    ∃ j k, writeJournal stamp r b o a f s = { s with journal := j, counters := k } := by
  unfold writeJournal bumpIf
  dsimp only
  split <;> exact ⟨_, _, rfl⟩

theorem writeGateEntry_changes (o : JournalOutcome) (s : State) :
    ∃ j k, writeGateEntry o s = { s with journal := j, counters := k } := writeJournal_changes ..

theorem markJournal_changes (n : PunchNotice) (m : Announcement) (s : State) : ∃ j, markJournal n m s = { s with journal := j } :=
  ⟨_, rfl⟩

theorem showResult_changes (text : List Byte) (s : State) : ∃ p, showResult text s = { s with panel := p } := by
  unfold showResult
  split <;> exact ⟨_, rfl⟩

theorem showMessage_changes (i : Nat) (s : State) : ∃ p, showMessage i s = { s with panel := p } := by
  unfold showMessage
  split <;> exact ⟨_, rfl⟩

theorem showClock_changes (m : Nat) (s : State) : ∃ p, showClock m s = { s with panel := p } := by
  unfold showClock
  split <;> exact ⟨_, rfl⟩

theorem deliverMessage_changes (m : Option Nat) (s : State) : ∃ p, deliverMessage m s = { s with panel := p } := by
  cases m
  · exact ⟨_, rfl⟩
  · exact showMessage_changes ..

/-! ### Refusals and the waiting queue -/

theorem indicate_changes (r : Reader) (b : Bool) (s : State) :
    ∃ e x, indicate r b s = { s with entryChannel := e, exitChannel := x } := setChannel_changes ..

theorem noteOutcome_changes (r : Reader) (b : Nat) (s : State) :
    ∃ e x, noteOutcome r b s = { s with entryChannel := e, exitChannel := x } := setChannel_changes ..

theorem refuseAtChannel_changes (r : Reader) (b : Option Nat) (why : Reason) (s : State) :
    ∃ j k p e x, refuseAtChannel r b why s =
      { s with journal := j, counters := k, panel := p, entryChannel := e, exitChannel := x } := by
  unfold refuseAtChannel
  obtain ⟨j, k, h⟩ := writeJournal_changes s.clock.stamp (some r) b (.refused why) .none none s
  rw [h]
  obtain ⟨p, h⟩ := showResult_changes (refusalText why) { s with journal := j, counters := k }
  rw [h]
  obtain ⟨e, x, h⟩ := indicate_changes r false { s with journal := j, counters := k, panel := p }
  rw [h]
  exact ⟨_, _, _, _, _, rfl⟩

theorem refuseRead_changes (r : Reader) (b : Nat) (why : Reason) (s : State) :
    ∃ j k p e x, refuseRead r b why s =
      { s with journal := j, counters := k, panel := p, entryChannel := e, exitChannel := x } := by
  unfold refuseRead
  obtain ⟨j, k, p, e, x, h⟩ := refuseAtChannel_changes r (some b) why s
  rw [h]
  obtain ⟨e', x', h⟩ := noteOutcome_changes r b { s with journal := j, counters := k, panel := p, entryChannel := e, exitChannel := x }
  rw [h]
  exact ⟨_, _, _, _, _, rfl⟩

/-! ### The transmit queue -/

theorem enqueue_changes (p : TxPayload) (s : State) : ∃ x n, enqueue p s = { s with line := { s.line with tx := x, backoff := n } } :=
  ⟨_, _, rfl⟩

theorem offer_changes (p : TxPayload) (c : Counter) (s : State) :
    ∃ x n k, offer p c s = { s with line := { s.line with tx := x, backoff := n }, counters := k } := by
  unfold offer
  split <;> exact ⟨_, _, _, rfl⟩

theorem offerReply_changes (r : Reply) (s : State) :
    ∃ x n k, offerReply r s = { s with line := { s.line with tx := x, backoff := n }, counters := k } := offer_changes ..

theorem reservationToNotice_changes (n : PunchNotice) (s : State) : ∃ l, reservationToNotice n s = { s with line := l } := ⟨_, rfl⟩

theorem restartReplyGone_changes (r : Reply) (s : State) : ∃ q, restartReplyGone r s = { s with restart := q } := by
  unfold restartReplyGone
  split <;> exact ⟨_, rfl⟩

theorem noteSent_changes (p : TxPayload) (s : State) : ∃ j q, noteSent p s = { s with journal := j, restart := q } := by
  cases p with
  | punch n => exact ⟨_, _, rfl⟩
  | beacon => exact ⟨_, _, rfl⟩
  | ring r => exact ⟨_, _, rfl⟩
  | reply r =>
    obtain ⟨q, h⟩ := restartReplyGone_changes r s
    exact ⟨_, _, h⟩

theorem noteGivenUp_changes (p : TxPayload) (s : State) :
    ∃ j q k, noteGivenUp p s = { s with journal := j, restart := q, counters := k } := by
  cases p with
  | punch n => exact ⟨_, _, _, rfl⟩
  | beacon => exact ⟨_, _, _, rfl⟩
  | ring r => exact ⟨_, _, _, rfl⟩
  | reply r =>
    obtain ⟨q, h⟩ := restartReplyGone_changes r (bump .replyDropped s)
    exact ⟨_, _, _, h⟩

theorem noteEmptied_changes (p : TxPayload) (s : State) : ∃ j, noteEmptied p s = { s with journal := j } := by
  cases p <;> exact ⟨_, rfl⟩

theorem foldl_noteEmptied_changes (l : List TxFrame) (s : State) :
    ∃ j, l.foldl (fun t f => noteEmptied f.payload t) s = { s with journal := j } := by
  induction l generalizing s with
  | nil => exact ⟨_, rfl⟩
  | cons f rest ih =>
    obtain ⟨j, h⟩ := noteEmptied_changes f.payload s
    obtain ⟨j', h'⟩ := ih { s with journal := j }
    exact ⟨j', by rw [List.foldl_cons, h, h']⟩

theorem emptyTx_changes (s : State) :
    ∃ j, emptyTx s = { s with journal := j, line := { s.line with tx := [], backoff := 0 } } := by
  obtain ⟨j, h⟩ := foldl_noteEmptied_changes s.line.tx s
  exact ⟨j, by simp only [emptyTx, h]⟩

theorem sendComplete_changes (s : State) :
    ∃ l j q w k, sendComplete s = { s with line := l, journal := j, restart := q, waiting := w, counters := k } := by
  unfold sendComplete
  split
  · exact ⟨_, _, _, _, _, rfl⟩
  · rename_i f rest _
    obtain ⟨j, q, h⟩ := noteSent_changes f.payload (popHead { s with line := { s.line with attempt := none } })
    obtain ⟨w, k, h'⟩ := testHead_changes (noteSent f.payload (popHead { s with line := { s.line with attempt := none } }))
    rw [h', h]
    exact ⟨_, _, _, _, _, rfl⟩

theorem giveUp_changes (p : TxPayload) (s : State) :
    ∃ j q w k, giveUp p s =
      { s with line := { s.line with tx := s.line.tx.tail, backoff := 0 }, journal := j, restart := q, waiting := w,
               counters := k } := by
  unfold giveUp
  obtain ⟨j, q, k, h⟩ := noteGivenUp_changes p (bump .frameGiveUp (popHead s))
  obtain ⟨w, k', h'⟩ := testHead_changes (noteGivenUp p (bump .frameGiveUp (popHead s)))
  rw [h', h]
  exact ⟨_, _, _, _, rfl⟩

theorem collide_changes (s : State) :
    ∃ l j q w k, collide s = { s with line := l, journal := j, restart := q, waiting := w, counters := k } := by
  unfold collide
  split
  · exact ⟨_, _, _, _, _, rfl⟩
  · rename_i f rest _
    by_cases hc : f.attempts = Config.attemptMax
    · simp only [hc, if_true]
      obtain ⟨j, q, w, k, h⟩ := giveUp_changes f.payload (bump .collision { s with line := { s.line with attempt := none } })
      rw [h]
      exact ⟨_, _, _, _, _, rfl⟩
    · simp only [hc, if_false]
      exact ⟨_, _, _, _, _, rfl⟩

/-! ### The receiver -/

theorem bufferFrame_changes (f : RxFrame) (s : State) : ∃ l k, bufferFrame f s = { s with line := l, counters := k } := by
  unfold bufferFrame
  split <;> exact ⟨_, _, rfl⟩

theorem sortFrame_changes (bytes body : List Byte) (s : State) :
    ∃ l k, sortFrame bytes body s = { s with line := l, counters := k } := by
  unfold sortFrame
  split
  · exact ⟨_, _, rfl⟩
  · split
    · split
      · exact ⟨_, _, rfl⟩
      · exact bufferFrame_changes ..
    · exact ⟨_, _, rfl⟩

theorem frameComplete_changes (bytes : List Byte) (own : Bool) (s : State) :
    ∃ l k p, frameComplete bytes own s = { s with line := l, counters := k, peers := p } := by
  unfold frameComplete
  dsimp only
  split
  · exact ⟨_, _, _, rfl⟩
  · split
    · exact ⟨_, _, _, rfl⟩
    · split
      · exact ⟨_, _, _, rfl⟩
      · split
        · exact ⟨_, _, _, rfl⟩
        · obtain ⟨l, k, h⟩ := sortFrame_changes bytes ((bytes.take (bytes.length - 2)).drop 4) s
          exact ⟨_, _, _, h⟩

theorem assemble_changes (data : Byte) (mark own : Bool) (s : State) :
    ∃ l k p, assemble data mark own s = { s with line := l, counters := k, peers := p } := by
  unfold assemble
  split
  · split <;> exact ⟨_, _, _, rfl⟩
  · split
    · exact ⟨_, _, _, rfl⟩
    · unfold extendFrame
      split
      · exact ⟨_, _, _, rfl⟩
      · split
        · obtain ⟨l, k, p, h⟩ := frameComplete_changes _ own (setAssembly none s)
          rw [h]
          exact ⟨_, _, _, rfl⟩
        · exact ⟨_, _, _, rfl⟩

theorem readBack_changes (a : Attempt) (data : Byte) (mark : Bool) (s : State) :
    ∃ l j q w k, readBack a data mark s = { s with line := l, journal := j, restart := q, waiting := w, counters := k } := by
  unfold readBack
  split
  · split
    · exact sendComplete_changes s
    · exact ⟨_, _, _, _, _, rfl⟩
  · exact collide_changes s

theorem takeCharacter_changes (data : Byte) (mark : Bool) (s : State) :
    ∃ l j q w k p, takeCharacter data mark s =
      { s with line := l, journal := j, restart := q, waiting := w, counters := k, peers := p } := by
  unfold takeCharacter
  split
  · obtain ⟨l, k, p, h⟩ := assemble_changes data mark false s
    exact ⟨_, _, _, _, _, _, h⟩
  · rename_i a _
    obtain ⟨l, k, p, h⟩ := assemble_changes data mark (a.matches data mark && a.last) s
    obtain ⟨l', j, q, w, k', h'⟩ := readBack_changes a data mark (assemble data mark (a.matches data mark && a.last) s)
    rw [h', h]
    exact ⟨_, _, _, _, _, _, rfl⟩

theorem takeFramingError_changes (s : State) :
    ∃ l j q w k, takeFramingError s = { s with line := l, journal := j, restart := q, waiting := w, counters := k } := by
  unfold takeFramingError
  split
  · exact ⟨_, _, _, _, _, rfl⟩
  · obtain ⟨l, j, q, w, k, h⟩ := collide_changes (bump .lineFramingError (setAssembly none s))
    rw [h]
    exact ⟨_, _, _, _, _, rfl⟩

/-! ### The roster -/

theorem rosterWeekChange_changes (w : Nat) (s : State) :
    ∃ k, rosterWeekChange w s = { s with roster := s.roster.map (changeWeek w), counters := k } := ⟨_, rfl⟩

theorem countPlace_changes (p : CreditPlace) (s : State) : ∃ k, countPlace p s = { s with counters := k } := by
  cases p <;> exact ⟨_, rfl⟩

theorem countHeardResult_changes (n : PunchNotice) (x : Record) (s : State) :
    ∃ k, countHeardResult n x s = { s with counters := k } := by
  unfold countHeardResult
  split
  · exact ⟨_, rfl⟩
  · split
    · exact ⟨_, rfl⟩
    · exact countPlace_changes ..

theorem countOwnClose_changes (c : Settings) (iv : OpenInterval) (stamp : Stamp) (x : Record) (s : State) :
    ∃ k, countOwnClose c iv stamp x s = { s with counters := k } := by
  unfold countOwnClose
  split
  · exact ⟨_, rfl⟩
  · exact countPlace_changes ..

theorem hearPunchBody_changes (body : List Byte) (source : Nat) (s : State) :
    ∃ r k, hearPunchBody body source s = { s with roster := r, counters := k } := by
  unfold hearPunchBody
  split
  · exact ⟨_, _, rfl⟩
  · rename_i n _
    split
    · unfold hearNotice
      split
      · exact ⟨_, _, rfl⟩
      · rename_i x _
        obtain ⟨k, h⟩ := bumpIf_changes (heardAbandons x n { stamp := n.stamp, station := source }) .intervalAbandoned s
        simp only [h]
        obtain ⟨k, h⟩ := bumpIf_changes (!isCurrent x { stamp := n.stamp, station := source }) .punchLate { s with counters := k }
        simp only [h]
        obtain ⟨k, h⟩ := countHeardResult_changes n (heardPassage s.settings n { stamp := n.stamp, station := source } x)
          { s with counters := k }
        simp only [h]
        exact ⟨_, _, rfl⟩
    · exact ⟨_, _, rfl⟩

theorem commitRoster_changes (p : PendingPunch) (stamp : Stamp) (s : State) :
    ∃ r k, (commitRoster p stamp s).1 = { s with roster := r, counters := k } := by
  unfold commitRoster
  cases s.record p.badge with
  | none => exact ⟨_, _, rfl⟩
  | some x =>
    cases p.reader with
    | entry =>
      obtain ⟨k, h⟩ := bumpIf_changes x.interval.isSome .intervalAbandoned s
      simp only [readerDirection, h]
      exact ⟨_, _, rfl⟩
    | exit =>
      cases hi : x.interval with
      | none =>
        simp only [readerDirection, hi]
        exact ⟨_, _, rfl⟩
      | some iv =>
        obtain ⟨k, h⟩ := countOwnClose_changes s.settings iv stamp x s
        simp only [readerDirection, hi, h]
        exact ⟨_, _, rfl⟩

/-! ### The pending punch -/

theorem commitPunch_changes (p : PendingPunch) (stamp : Stamp) (s : State) :
    ∃ r k j a l, commitPunch p stamp s =
      { s with roster := r, counters := k, journal := j, panel := a, line := l, pendingPunch := none } := by
  unfold commitPunch
  obtain ⟨r, k, h⟩ := commitRoster_changes p stamp s
  simp only [h]
  obtain ⟨j, k', h⟩ := writeJournal_changes stamp (some p.reader) (some p.badge)
    (admittedOutcome (commitNotice p stamp (commitRoster p stamp s).2 s.journal.next).direction) .queued
    (some (commitNotice p stamp (commitRoster p stamp s).2 s.journal.next).flags) { s with roster := r, counters := k }
  simp only [h]
  obtain ⟨a, h⟩ := deliverMessage_changes (commitRoster p stamp s).2.message
    { s with roster := r, counters := k', journal := j }
  simp only [h]
  exact ⟨_, _, _, _, _, rfl⟩

theorem reportPassage_changes (s : State) :
    ∃ r k j a l q, reportPassage s =
      { s with roster := r, counters := k, journal := j, panel := a, line := l, pendingPunch := q } := by
  unfold reportPassage
  split
  · exact ⟨_, _, _, _, _, _, rfl⟩
  · rename_i p _
    split
    · obtain ⟨r, k, j, a, l, h⟩ := commitPunch_changes p _ s
      rw [h]
      exact ⟨_, _, _, _, _, _, rfl⟩
    · exact ⟨_, _, _, _, _, _, rfl⟩
    · unfold confirmNoPunch
      obtain ⟨j, k, h⟩ := writeJournal_changes s.clock.stamp (some p.reader) (some p.badge) .passageNoPunch .none none s
      rw [h]
      exact ⟨_, _, _, _, _, _, rfl⟩

theorem withdrawPending_changes (s : State) :
    ∃ j k n, withdrawPending s =
      { s with journal := j, counters := k, pendingPunch := none, line := { s.line with reserved := n } } := by
  cases h : s.pendingPunch with
  | none =>
    refine ⟨s.journal, s.counters, s.line.reserved, ?_⟩
    simp only [withdrawPending, h]
    rw [← h]
  | some p =>
    cases hk : p.kind with
    | punch =>
      obtain ⟨j, k, h'⟩ := writeJournal_changes s.clock.stamp (some p.reader) (some p.badge) .withdrawn .none none (unreserve s)
      refine ⟨j, k, s.line.reserved - 1, ?_⟩
      simp only [withdrawPending, h, hk, h']
      rfl
    | passage =>
      obtain ⟨j, k, h'⟩ := writeJournal_changes s.clock.stamp (some p.reader) (some p.badge) .withdrawn .none none s
      refine ⟨j, k, s.line.reserved, ?_⟩
      simp only [withdrawPending, h, hk, h']

/-! ### The bell -/

theorem startRings_changes (s : State) : ∃ b k, startRings s = { s with bell := b, counters := k } := by
  unfold startRings
  split
  · split
    · exact ⟨_, _, rfl⟩
    · split <;> exact ⟨_, _, rfl⟩
  · exact ⟨_, _, rfl⟩

theorem fireRing_changes (i : Nat) (s : State) : ∃ b k, fireRing i s = { s with bell := b, counters := k } := by
  unfold fireRing
  split
  · split
    · exact ⟨_, _, rfl⟩
    · unfold ringJoin
      obtain ⟨b, k, h⟩ := startRings_changes
        { s with bell := { s.bell with
            queue := s.bell.queue ++ [{ pattern := (s.settings.bell i).pattern, origin := .scheduled }] } }
      rw [h]
      exact ⟨_, _, rfl⟩
  · exact ⟨_, _, rfl⟩

theorem fireNotice_changes (c : Stamp) (i : Nat) (own : Bool) (s : State) :
    ∃ x n k, fireNotice c i own s = { s with line := { s.line with tx := x, backoff := n }, counters := k } := by
  unfold fireNotice
  split
  · exact offer_changes ..
  · exact ⟨_, _, _, rfl⟩

theorem openRush_changes (m : Nat) (s : State) : ∃ r, openRush m s = { s with bell := { s.bell with rush := r } } := by
  unfold openRush
  split <;> exact ⟨_, rfl⟩

theorem fireRush_changes (c : Stamp) (i : Nat) (s : State) : ∃ r, fireRush c i s = { s with bell := { s.bell with rush := r } } := by
  unfold fireRush
  split
  · exact openRush_changes ..
  · exact ⟨_, rfl⟩

theorem fireEntry_changes (c : Stamp) (i : Nat) (own : Bool) (s : State) :
    ∃ b x n k, fireEntry c i own s = { s with bell := b, line := { s.line with tx := x, backoff := n }, counters := k } := by
  unfold fireEntry
  obtain ⟨b, k, h⟩ := fireRing_changes i (setMark i s)
  rw [h]
  obtain ⟨x, n, k', h⟩ := fireNotice_changes c i own { setMark i s with bell := b, counters := k }
  rw [h]
  obtain ⟨r, h⟩ := fireRush_changes c i { setMark i s with bell := b, counters := k', line := { s.line with tx := x, backoff := n } }
  exact ⟨_, _, _, _, h⟩

theorem dueEntry_changes (c : Stamp) (s : State) (i : Nat) :
    ∃ b x n k, dueEntry c s i = { s with bell := b, line := { s.line with tx := x, backoff := n }, counters := k } := by
  unfold dueEntry
  split
  · exact fireEntry_changes ..
  · exact ⟨_, _, _, _, rfl⟩

theorem passedEntry_changes (s : State) (i : Nat) :
    ∃ b x n k, passedEntry s i = { s with bell := b, line := { s.line with tx := x, backoff := n }, counters := k } := by
  unfold passedEntry
  split
  · exact fireEntry_changes ..
  · exact ⟨_, _, _, _, rfl⟩

theorem foldl_changes {α : Type} (f : State → α → State)
    (hf : ∀ s i, ∃ b x n k, f s i = { s with bell := b, line := { s.line with tx := x, backoff := n }, counters := k })
    (is : List α) (s : State) :
    ∃ b x n k, is.foldl f s = { s with bell := b, line := { s.line with tx := x, backoff := n }, counters := k } := by
  induction is generalizing s with
  | nil => exact ⟨_, _, _, _, rfl⟩
  | cons i rest ih =>
    obtain ⟨b, x, n, k, h⟩ := hf s i
    obtain ⟨b', x', n', k', h'⟩ := ih { s with bell := b, line := { s.line with tx := x, backoff := n }, counters := k }
    exact ⟨b', x', n', k', by rw [List.foldl_cons, h, h']⟩

theorem fireDue_changes (c : Stamp) (s : State) : ∃ b x n k, fireDue c s = { s with bell := b, line := { s.line with tx := x, backoff := n }, counters := k } :=
  foldl_changes (dueEntry c) (dueEntry_changes c) _ s

theorem firePassed_changes (old : Nat) (s : State) :
    ∃ b x n k, firePassed old s = { s with bell := b, line := { s.line with tx := x, backoff := n }, counters := k } := by
  unfold firePassed
  split
  · exact foldl_changes passedEntry passedEntry_changes _ s
  · exact ⟨_, _, _, _, rfl⟩

theorem newDay_changes (d : Bool) (s : State) : ∃ m, newDay d s = { s with bell := { s.bell with marks := m } } := by
  cases d <;> exact ⟨_, rfl⟩

theorem rushAtAnnouncement_changes (n : Nat) (b : Bool) (s : State) :
    ∃ r, rushAtAnnouncement n b s = { s with bell := { s.bell with rush := r } } := by
  unfold rushAtAnnouncement
  split
  · exact ⟨_, rfl⟩
  · split <;> exact ⟨_, rfl⟩

theorem bellAdvance_changes (a : Advance) (s : State) :
    ∃ b x n k, bellAdvance a s = { s with bell := b, line := { s.line with tx := x, backoff := n }, counters := k } := by
  unfold bellAdvance
  obtain ⟨m, h⟩ := newDay_changes a.dayChanged s
  rw [h]
  obtain ⟨r, h⟩ := rushAtAnnouncement_changes a.stamp.abs false { s with bell := { s.bell with marks := m } }
  rw [h]
  obtain ⟨b, x, n, k, h⟩ := fireDue_changes a.stamp { s with bell := { s.bell with marks := m, rush := r } }
  exact ⟨b, x, n, k, h⟩

theorem bellStep_changes (old : Nat) (c : StepCause) (d : StepDirection) (day : Bool) (s : State) :
    ∃ b x n k, bellStep old c d day s = { s with bell := b, line := { s.line with tx := x, backoff := n }, counters := k } := by
  unfold bellStep
  obtain ⟨m, h⟩ := newDay_changes day s
  rw [h]
  obtain ⟨r, h⟩ := rushAtAnnouncement_changes s.clock.abs (c == .setClock) { s with bell := { s.bell with marks := m } }
  rw [h]
  cases d with
  | forward => exact firePassed_changes old { s with bell := { s.bell with marks := m, rush := r } }
  | backward => exact fireDue_changes s.clock.stamp { s with bell := { s.bell with marks := m, rush := r } }
  | initial => exact fireDue_changes s.clock.stamp { s with bell := { s.bell with marks := m, rush := r } }

theorem takeRing_changes (r : RingNotice) (s : State) :
    ∃ b x n k, takeRing r s = { s with bell := b, line := { s.line with tx := x, backoff := n }, counters := k } := by
  unfold takeRing
  dsimp only
  split
  · exact ⟨_, _, _, _, rfl⟩
  split
  · exact ⟨_, _, _, _, rfl⟩
  split
  · exact ⟨_, _, _, _, rfl⟩
  split
  · exact ⟨_, _, _, _, rfl⟩
  split
  · exact ⟨_, _, _, _, rfl⟩
  split
  · exact ⟨_, _, _, _, rfl⟩
  · exact fireEntry_changes ..

/-! ### Announcements and steps of the clock -/

theorem takeAdvance_changes (a : Advance) (s : State) :
    ∃ r b x n p k, takeAdvance a s = { s with roster := r, bell := b, line := { s.line with tx := x, backoff := n }, panel := p, counters := k } := by
  unfold takeAdvance
  have h : ∃ r k, (if a.weekChanged then rosterWeekChange a.week s else s) = { s with roster := r, counters := k } := by
    split <;> exact ⟨_, _, rfl⟩
  obtain ⟨r, k, h⟩ := h
  rw [h]
  obtain ⟨b, x, n, k', h⟩ := bellAdvance_changes a { s with roster := r, counters := k }
  rw [h]
  obtain ⟨p, h⟩ := showClock_changes a.minute { s with roster := r, counters := k', bell := b, line := { s.line with tx := x, backoff := n } }
  exact ⟨_, _, _, _, _, _, h⟩

theorem handAnnouncements_changes (s : State) :
    ∃ r b x n p k, handAnnouncements s =
      { s with announcements := [], roster := r, bell := b, line := { s.line with tx := x, backoff := n }, panel := p, counters := k } := by
  have h : ∀ (as : List Advance) (u : State), ∃ r b x n p k, as.foldl (fun t a => takeAdvance a t) u =
      { u with roster := r, bell := b, line := { u.line with tx := x, backoff := n }, panel := p, counters := k } := by
    intro as
    induction as with
    | nil => exact fun u => ⟨_, _, _, _, _, _, rfl⟩
    | cons a rest ih =>
      intro u
      obtain ⟨r, b, x, n, p, k, h⟩ := takeAdvance_changes a u
      obtain ⟨r', b', x', n', p', k', h'⟩ := ih { u with roster := r, bell := b, line := { u.line with tx := x, backoff := n }, panel := p, counters := k }
      exact ⟨r', b', x', n', p', k', by rw [List.foldl_cons, h, h']⟩
  exact h s.announcements { s with announcements := [] }

theorem stepClock_changes (new : Stamp) (c : StepCause) (s : State) :
    ∃ r b x n p k, stepClock new c s =
      { s with clock := steppedClock new, announcements := [], roster := r, bell := b, line := { s.line with tx := x, backoff := n }, panel := p,
               counters := k } := by
  unfold stepClock
  obtain ⟨r, b, x, n, p, k, h⟩ := handAnnouncements_changes s
  simp only [h]
  have h : ∃ r' k', (if s.clock.week ≠ new.week then
      rosterWeekChange new.week { s with announcements := [], roster := r, bell := b, line := { s.line with tx := x, backoff := n }, panel := p, counters := k,
                                         clock := steppedClock new }
      else { s with announcements := [], roster := r, bell := b, line := { s.line with tx := x, backoff := n }, panel := p, counters := k,
                    clock := steppedClock new }) =
      { s with announcements := [], roster := r', bell := b, line := { s.line with tx := x, backoff := n }, panel := p, counters := k',
               clock := steppedClock new } := by
    split <;> exact ⟨_, _, rfl⟩
  obtain ⟨r', k', h⟩ := h
  rw [h]
  obtain ⟨b', x', n', k', h⟩ := bellStep_changes s.clock.abs c (stepDirection s.clock new) (otherDay s.clock.stamp new)
    { s with announcements := [], roster := r', bell := b, line := { s.line with tx := x, backoff := n }, panel := p, counters := k', clock := steppedClock new }
  rw [h]
  obtain ⟨p', h⟩ := showClock_changes new.minute
    { s with announcements := [], roster := r', bell := b', line := { s.line with tx := x', backoff := n' }, panel := p, counters := k', clock := steppedClock new }
  exact ⟨_, _, _, _, _, _, h⟩

/-! ### Decisions -/

theorem startRelease_changes (s : State) :
    ∃ g r k j a l q, startRelease s =
      { s with gate := g, roster := r, counters := k, journal := j, panel := a, line := l, pendingPunch := q } := by
  unfold startRelease
  split
  · obtain ⟨r, k, j, a, l, q, h⟩ := reportPassage_changes s
    exact ⟨_, _, _, _, _, _, _, h⟩
  · split
    · exact ⟨_, _, _, _, _, _, _, rfl⟩
    · obtain ⟨r, k, j, a, l, q, h⟩ := reportPassage_changes (enterReleased s)
      rw [h]
      exact ⟨_, _, _, _, _, _, _, rfl⟩

theorem admitPunch_changes (w : WaitEntry) (soft unpaired : Bool) (pr : Presence) (s : State) :
    ∃ g r k j a l q e x, admitPunch w soft unpaired pr s =
      { s with gate := g, roster := r, counters := k, journal := j, panel := a, line := l, pendingPunch := q,
               entryChannel := e, exitChannel := x } := by
  unfold admitPunch
  obtain ⟨e, x, h⟩ := indicate_changes w.reader true
    { reserve s with pendingPunch := some (pendingOf w s.clock.stamp soft unpaired pr) }
  simp only [h]
  obtain ⟨a, h⟩ := showResult_changes (admissionText (readerDirection w.reader) s.clock.stamp)
    { reserve s with pendingPunch := some (pendingOf w s.clock.stamp soft unpaired pr), entryChannel := e, exitChannel := x }
  rw [h]
  obtain ⟨g, r, k, j, a', l, q, h⟩ := startRelease_changes
    { reserve s with pendingPunch := some (pendingOf w s.clock.stamp soft unpaired pr), entryChannel := e, exitChannel := x,
                     panel := a }
  rw [h]
  exact ⟨_, _, _, _, _, _, _, _, _, rfl⟩

theorem admitPassage_changes (w : WaitEntry) (s : State) :
    ∃ g r k j a l q e x, admitPassage w s =
      { s with gate := g, roster := r, counters := k, journal := j, panel := a, line := l, pendingPunch := q,
               entryChannel := e, exitChannel := x } := by
  unfold admitPassage
  obtain ⟨e, x, h⟩ := indicate_changes w.reader true { s with pendingPunch := some (passageOf w) }
  simp only [h]
  obtain ⟨a, h⟩ := showResult_changes passageText
    { s with pendingPunch := some (passageOf w), entryChannel := e, exitChannel := x }
  rw [h]
  obtain ⟨g, r, k, j, a', l, q, h⟩ := startRelease_changes
    { s with pendingPunch := some (passageOf w), entryChannel := e, exitChannel := x, panel := a }
  rw [h]
  exact ⟨_, _, _, _, _, _, _, _, _, rfl⟩

theorem applyDecision_changes (d : Decision) (w : WaitEntry) (s : State) :
    ∃ g r k j a l q e x, applyDecision d w s =
      { s with gate := g, roster := r, counters := k, journal := j, panel := a, line := l, pendingPunch := q,
               entryChannel := e, exitChannel := x } := by
  cases d with
  | refuse why =>
    obtain ⟨j, k, p, e, x, h⟩ := refuseRead_changes w.reader w.badge why s
    exact ⟨_, _, _, _, _, _, _, _, _, h⟩
  | admission soft unpaired pr =>
    obtain ⟨g, r, k, j, a, l, q, e, x, h⟩ := admitPunch_changes w soft unpaired pr s
    unfold applyDecision
    simp only [h]
    obtain ⟨e', x', h⟩ := noteOutcome_changes w.reader w.badge
      { s with gate := g, roster := r, counters := k, journal := j, panel := a, line := l, pendingPunch := q,
               entryChannel := e, exitChannel := x }
    exact ⟨_, _, _, _, _, _, _, _, _, h⟩
  | passage =>
    obtain ⟨g, r, k, j, a, l, q, e, x, h⟩ := admitPassage_changes w s
    unfold applyDecision
    simp only [h]
    obtain ⟨e', x', h⟩ := noteOutcome_changes w.reader w.badge
      { s with gate := g, roster := r, counters := k, journal := j, panel := a, line := l, pendingPunch := q,
               entryChannel := e, exitChannel := x }
    exact ⟨_, _, _, _, _, _, _, _, _, h⟩

/-! ### Starts and BACKUP -/

theorem stopLine_changes (s : State) :
    ∃ j, stopLine s =
      { s with journal := j, line := { s.line with tx := [], rx := [], backoff := 0, assembly := none, attempt := none,
                                                   receiving := false, startSeen := false, charSeen := false } } := by
  obtain ⟨j, h⟩ := emptyTx_changes (cutLine s)
  exact ⟨j, by simp only [stopLine, h]; rfl⟩

theorem stopBlocks_changes (s : State) :
    ∃ j k n, stopBlocks s =
      { s with journal := j, counters := k, pendingPunch := none, gate := Gate.initial, waiting := [],
               entryChannel := Channel.empty, exitChannel := Channel.empty, restart := .none, panel := s.panel.stopped,
               bell := (silenceBell s).bell,
               line := { s.line with reserved := n, tx := [], rx := [], backoff := 0, assembly := none, attempt := none,
                                     receiving := false, startSeen := false, charSeen := false } } := by
  obtain ⟨j, k, n, h⟩ := withdrawPending_changes (stopGate s)
  unfold stopBlocks
  rw [h]
  obtain ⟨j', h'⟩ := stopLine_changes
    { s with gate := Gate.initial, journal := j, counters := k, pendingPunch := none,
             line := { s.line with reserved := n }, waiting := [] }
  refine ⟨j', k, n, ?_⟩
  simp only [emptyWaiting, stopGate, h', clearChannels, silenceBell, stopPanel, endRestart]

end Sys2Proof.Machine
end

