-- ==== Sys2Proof/Laws/Minutes.lean ====
section
/-! SUPPORT. What is known of the difference and the sum of absolute minutes (R5): their ranges, and that they agree with the exact
figure up to a whole number of moduli. -/

namespace Sys2Proof.Machine

theorem absDiff_eq (a b : Nat) :
    absDiff a b =
      if 330301440 ≤ (a + (660602880 - b % 660602880)) % 660602880 then
        (((a + (660602880 - b % 660602880)) % 660602880 : Nat) : Int) - 660602880
      else ((a + (660602880 - b % 660602880)) % 660602880 : Nat) := rfl

theorem absDiff_spec (a b : Nat) :
    -(330301440 : Int) ≤ absDiff a b ∧ absDiff a b < 330301440 ∧ ∃ k : Int, absDiff a b = (a : Int) - b + k * 660602880 := by
  rw [absDiff_eq]
  have h1 : ((a + (660602880 - b % 660602880)) % 660602880 : Nat) < 660602880 := Nat.mod_lt _ (by decide)
  have hk : ∃ k : Int, (((a + (660602880 - b % 660602880)) % 660602880 : Nat) : Int) = (a : Int) - b + k * 660602880 := by
    refine ⟨(b / 660602880 : Nat) + 1 - ((a + (660602880 - b % 660602880)) / 660602880 : Nat), ?_⟩
    omega
  obtain ⟨k, hk⟩ := hk
  generalize ((a + (660602880 - b % 660602880)) % 660602880 : Nat) = r at *
  by_cases hr : 330301440 ≤ r
  · rw [if_pos hr]; refine ⟨by omega, by omega, k - 1, by omega⟩
  · rw [if_neg hr]; refine ⟨by omega, by omega, k, by omega⟩

theorem absDiff_unique (a b : Nat) (d k : Int) (h1 : -330301440 ≤ d) (h2 : d < 330301440)
    (h : d = (a : Int) - b + k * 660602880) : absDiff a b = d := by
  obtain ⟨h3, h4, k', h5⟩ := absDiff_spec a b
  omega

theorem absAdd_spec (a : Nat) (j : Int) :
    absAdd a j < 660602880 ∧ ∃ k : Int, (absAdd a j : Int) = a + j + k * 660602880 := by
  simp only [absAdd, Config.absModulus]
  refine ⟨by omega, -(((a : Int) + j) / 660602880), by omega⟩

theorem absAdd_unique (a : Nat) (j : Int) (m : Nat) (k : Int) (hm : m < 660602880)
    (h : (m : Int) = a + j + k * 660602880) : absAdd a j = m := by
  obtain ⟨h1, k', h2⟩ := absAdd_spec a j
  omega

theorem absAdd_absDiff (m start : Nat) (h : m < 660602880) : absAdd start (absDiff m start) = m := by
  obtain ⟨_, _, k, hk⟩ := absDiff_spec m start
  exact absAdd_unique _ _ _ (-k) h (by omega)

end Sys2Proof.Machine
end

