-- ==== Sys2Proof/Laws/State.lean ====
section
/-! SUPPORT. The lemmas of the updates of State: one for each field an update leaves, then what the update puts into its own field,
so that no later proof unfolds a record update. -/

namespace Sys2Proof.Machine

variable (s : State)

/-! ### addCount -/

@[simp] theorem addCount_starts (c : Counter) (n : Nat) : (addCount c n s).starts = s.starts := rfl
@[simp] theorem addCount_timebase (c : Counter) (n : Nat) : (addCount c n s).timebase = s.timebase := rfl
@[simp] theorem addCount_clock (c : Counter) (n : Nat) : (addCount c n s).clock = s.clock := rfl
@[simp] theorem addCount_announcements (c : Counter) (n : Nat) : (addCount c n s).announcements = s.announcements := rfl
@[simp] theorem addCount_peers (c : Counter) (n : Nat) : (addCount c n s).peers = s.peers := rfl
@[simp] theorem addCount_roster (c : Counter) (n : Nat) : (addCount c n s).roster = s.roster := rfl
@[simp] theorem addCount_entryChannel (c : Counter) (n : Nat) : (addCount c n s).entryChannel = s.entryChannel := rfl
@[simp] theorem addCount_exitChannel (c : Counter) (n : Nat) : (addCount c n s).exitChannel = s.exitChannel := rfl
@[simp] theorem addCount_waiting (c : Counter) (n : Nat) : (addCount c n s).waiting = s.waiting := rfl
@[simp] theorem addCount_pendingPunch (c : Counter) (n : Nat) : (addCount c n s).pendingPunch = s.pendingPunch := rfl
@[simp] theorem addCount_gate (c : Counter) (n : Nat) : (addCount c n s).gate = s.gate := rfl
@[simp] theorem addCount_settings (c : Counter) (n : Nat) : (addCount c n s).settings = s.settings := rfl
@[simp] theorem addCount_bell (c : Counter) (n : Nat) : (addCount c n s).bell = s.bell := rfl
@[simp] theorem addCount_line (c : Counter) (n : Nat) : (addCount c n s).line = s.line := rfl
@[simp] theorem addCount_restart (c : Counter) (n : Nat) : (addCount c n s).restart = s.restart := rfl
@[simp] theorem addCount_journal (c : Counter) (n : Nat) : (addCount c n s).journal = s.journal := rfl
@[simp] theorem addCount_panel (c : Counter) (n : Nat) : (addCount c n s).panel = s.panel := rfl
@[simp] theorem addCount_pending (c : Counter) (n : Nat) : (addCount c n s).pending = s.pending := rfl

/-! ### bump -/

@[simp] theorem bump_starts (c : Counter) : (bump c s).starts = s.starts := rfl
@[simp] theorem bump_timebase (c : Counter) : (bump c s).timebase = s.timebase := rfl
@[simp] theorem bump_clock (c : Counter) : (bump c s).clock = s.clock := rfl
@[simp] theorem bump_announcements (c : Counter) : (bump c s).announcements = s.announcements := rfl
@[simp] theorem bump_peers (c : Counter) : (bump c s).peers = s.peers := rfl
@[simp] theorem bump_roster (c : Counter) : (bump c s).roster = s.roster := rfl
@[simp] theorem bump_entryChannel (c : Counter) : (bump c s).entryChannel = s.entryChannel := rfl
@[simp] theorem bump_exitChannel (c : Counter) : (bump c s).exitChannel = s.exitChannel := rfl
@[simp] theorem bump_waiting (c : Counter) : (bump c s).waiting = s.waiting := rfl
@[simp] theorem bump_pendingPunch (c : Counter) : (bump c s).pendingPunch = s.pendingPunch := rfl
@[simp] theorem bump_gate (c : Counter) : (bump c s).gate = s.gate := rfl
@[simp] theorem bump_settings (c : Counter) : (bump c s).settings = s.settings := rfl
@[simp] theorem bump_bell (c : Counter) : (bump c s).bell = s.bell := rfl
@[simp] theorem bump_line (c : Counter) : (bump c s).line = s.line := rfl
@[simp] theorem bump_restart (c : Counter) : (bump c s).restart = s.restart := rfl
@[simp] theorem bump_journal (c : Counter) : (bump c s).journal = s.journal := rfl
@[simp] theorem bump_panel (c : Counter) : (bump c s).panel = s.panel := rfl
@[simp] theorem bump_pending (c : Counter) : (bump c s).pending = s.pending := rfl

/-! ### enqueue -/

@[simp] theorem enqueue_starts (p : TxPayload) : (enqueue p s).starts = s.starts := rfl
@[simp] theorem enqueue_timebase (p : TxPayload) : (enqueue p s).timebase = s.timebase := rfl
@[simp] theorem enqueue_clock (p : TxPayload) : (enqueue p s).clock = s.clock := rfl
@[simp] theorem enqueue_announcements (p : TxPayload) : (enqueue p s).announcements = s.announcements := rfl
@[simp] theorem enqueue_peers (p : TxPayload) : (enqueue p s).peers = s.peers := rfl
@[simp] theorem enqueue_roster (p : TxPayload) : (enqueue p s).roster = s.roster := rfl
@[simp] theorem enqueue_entryChannel (p : TxPayload) : (enqueue p s).entryChannel = s.entryChannel := rfl
@[simp] theorem enqueue_exitChannel (p : TxPayload) : (enqueue p s).exitChannel = s.exitChannel := rfl
@[simp] theorem enqueue_waiting (p : TxPayload) : (enqueue p s).waiting = s.waiting := rfl
@[simp] theorem enqueue_pendingPunch (p : TxPayload) : (enqueue p s).pendingPunch = s.pendingPunch := rfl
@[simp] theorem enqueue_gate (p : TxPayload) : (enqueue p s).gate = s.gate := rfl
@[simp] theorem enqueue_settings (p : TxPayload) : (enqueue p s).settings = s.settings := rfl
@[simp] theorem enqueue_bell (p : TxPayload) : (enqueue p s).bell = s.bell := rfl
@[simp] theorem enqueue_restart (p : TxPayload) : (enqueue p s).restart = s.restart := rfl
@[simp] theorem enqueue_journal (p : TxPayload) : (enqueue p s).journal = s.journal := rfl
@[simp] theorem enqueue_panel (p : TxPayload) : (enqueue p s).panel = s.panel := rfl
@[simp] theorem enqueue_counters (p : TxPayload) : (enqueue p s).counters = s.counters := rfl
@[simp] theorem enqueue_pending (p : TxPayload) : (enqueue p s).pending = s.pending := rfl

/-! ### reserve -/

@[simp] theorem reserve_starts : (reserve s).starts = s.starts := rfl
@[simp] theorem reserve_timebase : (reserve s).timebase = s.timebase := rfl
@[simp] theorem reserve_clock : (reserve s).clock = s.clock := rfl
@[simp] theorem reserve_announcements : (reserve s).announcements = s.announcements := rfl
@[simp] theorem reserve_peers : (reserve s).peers = s.peers := rfl
@[simp] theorem reserve_roster : (reserve s).roster = s.roster := rfl
@[simp] theorem reserve_entryChannel : (reserve s).entryChannel = s.entryChannel := rfl
@[simp] theorem reserve_exitChannel : (reserve s).exitChannel = s.exitChannel := rfl
@[simp] theorem reserve_waiting : (reserve s).waiting = s.waiting := rfl
@[simp] theorem reserve_pendingPunch : (reserve s).pendingPunch = s.pendingPunch := rfl
@[simp] theorem reserve_gate : (reserve s).gate = s.gate := rfl
@[simp] theorem reserve_settings : (reserve s).settings = s.settings := rfl
@[simp] theorem reserve_bell : (reserve s).bell = s.bell := rfl
@[simp] theorem reserve_restart : (reserve s).restart = s.restart := rfl
@[simp] theorem reserve_journal : (reserve s).journal = s.journal := rfl
@[simp] theorem reserve_panel : (reserve s).panel = s.panel := rfl
@[simp] theorem reserve_counters : (reserve s).counters = s.counters := rfl
@[simp] theorem reserve_pending : (reserve s).pending = s.pending := rfl

/-! ### unreserve -/

@[simp] theorem unreserve_starts : (unreserve s).starts = s.starts := rfl
@[simp] theorem unreserve_timebase : (unreserve s).timebase = s.timebase := rfl
@[simp] theorem unreserve_clock : (unreserve s).clock = s.clock := rfl
@[simp] theorem unreserve_announcements : (unreserve s).announcements = s.announcements := rfl
@[simp] theorem unreserve_peers : (unreserve s).peers = s.peers := rfl
@[simp] theorem unreserve_roster : (unreserve s).roster = s.roster := rfl
@[simp] theorem unreserve_entryChannel : (unreserve s).entryChannel = s.entryChannel := rfl
@[simp] theorem unreserve_exitChannel : (unreserve s).exitChannel = s.exitChannel := rfl
@[simp] theorem unreserve_waiting : (unreserve s).waiting = s.waiting := rfl
@[simp] theorem unreserve_pendingPunch : (unreserve s).pendingPunch = s.pendingPunch := rfl
@[simp] theorem unreserve_gate : (unreserve s).gate = s.gate := rfl
@[simp] theorem unreserve_settings : (unreserve s).settings = s.settings := rfl
@[simp] theorem unreserve_bell : (unreserve s).bell = s.bell := rfl
@[simp] theorem unreserve_restart : (unreserve s).restart = s.restart := rfl
@[simp] theorem unreserve_journal : (unreserve s).journal = s.journal := rfl
@[simp] theorem unreserve_panel : (unreserve s).panel = s.panel := rfl
@[simp] theorem unreserve_counters : (unreserve s).counters = s.counters := rfl
@[simp] theorem unreserve_pending : (unreserve s).pending = s.pending := rfl

/-! ### reservationToNotice -/

@[simp] theorem reservationToNotice_starts (n : PunchNotice) : (reservationToNotice n s).starts = s.starts := rfl
@[simp] theorem reservationToNotice_timebase (n : PunchNotice) : (reservationToNotice n s).timebase = s.timebase := rfl
@[simp] theorem reservationToNotice_clock (n : PunchNotice) : (reservationToNotice n s).clock = s.clock := rfl
@[simp] theorem reservationToNotice_announcements (n : PunchNotice) : (reservationToNotice n s).announcements = s.announcements := rfl
@[simp] theorem reservationToNotice_peers (n : PunchNotice) : (reservationToNotice n s).peers = s.peers := rfl
@[simp] theorem reservationToNotice_roster (n : PunchNotice) : (reservationToNotice n s).roster = s.roster := rfl
@[simp] theorem reservationToNotice_entryChannel (n : PunchNotice) : (reservationToNotice n s).entryChannel = s.entryChannel := rfl
@[simp] theorem reservationToNotice_exitChannel (n : PunchNotice) : (reservationToNotice n s).exitChannel = s.exitChannel := rfl
@[simp] theorem reservationToNotice_waiting (n : PunchNotice) : (reservationToNotice n s).waiting = s.waiting := rfl
@[simp] theorem reservationToNotice_pendingPunch (n : PunchNotice) : (reservationToNotice n s).pendingPunch = s.pendingPunch := rfl
@[simp] theorem reservationToNotice_gate (n : PunchNotice) : (reservationToNotice n s).gate = s.gate := rfl
@[simp] theorem reservationToNotice_settings (n : PunchNotice) : (reservationToNotice n s).settings = s.settings := rfl
@[simp] theorem reservationToNotice_bell (n : PunchNotice) : (reservationToNotice n s).bell = s.bell := rfl
@[simp] theorem reservationToNotice_restart (n : PunchNotice) : (reservationToNotice n s).restart = s.restart := rfl
@[simp] theorem reservationToNotice_journal (n : PunchNotice) : (reservationToNotice n s).journal = s.journal := rfl
@[simp] theorem reservationToNotice_panel (n : PunchNotice) : (reservationToNotice n s).panel = s.panel := rfl
@[simp] theorem reservationToNotice_counters (n : PunchNotice) : (reservationToNotice n s).counters = s.counters := rfl
@[simp] theorem reservationToNotice_pending (n : PunchNotice) : (reservationToNotice n s).pending = s.pending := rfl

/-! ### popHead -/

@[simp] theorem popHead_starts : (popHead s).starts = s.starts := rfl
@[simp] theorem popHead_timebase : (popHead s).timebase = s.timebase := rfl
@[simp] theorem popHead_clock : (popHead s).clock = s.clock := rfl
@[simp] theorem popHead_announcements : (popHead s).announcements = s.announcements := rfl
@[simp] theorem popHead_peers : (popHead s).peers = s.peers := rfl
@[simp] theorem popHead_roster : (popHead s).roster = s.roster := rfl
@[simp] theorem popHead_entryChannel : (popHead s).entryChannel = s.entryChannel := rfl
@[simp] theorem popHead_exitChannel : (popHead s).exitChannel = s.exitChannel := rfl
@[simp] theorem popHead_waiting : (popHead s).waiting = s.waiting := rfl
@[simp] theorem popHead_pendingPunch : (popHead s).pendingPunch = s.pendingPunch := rfl
@[simp] theorem popHead_gate : (popHead s).gate = s.gate := rfl
@[simp] theorem popHead_settings : (popHead s).settings = s.settings := rfl
@[simp] theorem popHead_bell : (popHead s).bell = s.bell := rfl
@[simp] theorem popHead_restart : (popHead s).restart = s.restart := rfl
@[simp] theorem popHead_journal : (popHead s).journal = s.journal := rfl
@[simp] theorem popHead_panel : (popHead s).panel = s.panel := rfl
@[simp] theorem popHead_counters : (popHead s).counters = s.counters := rfl
@[simp] theorem popHead_pending : (popHead s).pending = s.pending := rfl

/-! ### setAssembly -/

@[simp] theorem setAssembly_starts (a : Option (List Byte)) : (setAssembly a s).starts = s.starts := rfl
@[simp] theorem setAssembly_timebase (a : Option (List Byte)) : (setAssembly a s).timebase = s.timebase := rfl
@[simp] theorem setAssembly_clock (a : Option (List Byte)) : (setAssembly a s).clock = s.clock := rfl
@[simp] theorem setAssembly_announcements (a : Option (List Byte)) : (setAssembly a s).announcements = s.announcements := rfl
@[simp] theorem setAssembly_peers (a : Option (List Byte)) : (setAssembly a s).peers = s.peers := rfl
@[simp] theorem setAssembly_roster (a : Option (List Byte)) : (setAssembly a s).roster = s.roster := rfl
@[simp] theorem setAssembly_entryChannel (a : Option (List Byte)) : (setAssembly a s).entryChannel = s.entryChannel := rfl
@[simp] theorem setAssembly_exitChannel (a : Option (List Byte)) : (setAssembly a s).exitChannel = s.exitChannel := rfl
@[simp] theorem setAssembly_waiting (a : Option (List Byte)) : (setAssembly a s).waiting = s.waiting := rfl
@[simp] theorem setAssembly_pendingPunch (a : Option (List Byte)) : (setAssembly a s).pendingPunch = s.pendingPunch := rfl
@[simp] theorem setAssembly_gate (a : Option (List Byte)) : (setAssembly a s).gate = s.gate := rfl
@[simp] theorem setAssembly_settings (a : Option (List Byte)) : (setAssembly a s).settings = s.settings := rfl
@[simp] theorem setAssembly_bell (a : Option (List Byte)) : (setAssembly a s).bell = s.bell := rfl
@[simp] theorem setAssembly_restart (a : Option (List Byte)) : (setAssembly a s).restart = s.restart := rfl
@[simp] theorem setAssembly_journal (a : Option (List Byte)) : (setAssembly a s).journal = s.journal := rfl
@[simp] theorem setAssembly_panel (a : Option (List Byte)) : (setAssembly a s).panel = s.panel := rfl
@[simp] theorem setAssembly_counters (a : Option (List Byte)) : (setAssembly a s).counters = s.counters := rfl
@[simp] theorem setAssembly_pending (a : Option (List Byte)) : (setAssembly a s).pending = s.pending := rfl

/-! ### cutLine -/

@[simp] theorem cutLine_starts : (cutLine s).starts = s.starts := rfl
@[simp] theorem cutLine_timebase : (cutLine s).timebase = s.timebase := rfl
@[simp] theorem cutLine_clock : (cutLine s).clock = s.clock := rfl
@[simp] theorem cutLine_announcements : (cutLine s).announcements = s.announcements := rfl
@[simp] theorem cutLine_peers : (cutLine s).peers = s.peers := rfl
@[simp] theorem cutLine_roster : (cutLine s).roster = s.roster := rfl
@[simp] theorem cutLine_entryChannel : (cutLine s).entryChannel = s.entryChannel := rfl
@[simp] theorem cutLine_exitChannel : (cutLine s).exitChannel = s.exitChannel := rfl
@[simp] theorem cutLine_waiting : (cutLine s).waiting = s.waiting := rfl
@[simp] theorem cutLine_pendingPunch : (cutLine s).pendingPunch = s.pendingPunch := rfl
@[simp] theorem cutLine_gate : (cutLine s).gate = s.gate := rfl
@[simp] theorem cutLine_settings : (cutLine s).settings = s.settings := rfl
@[simp] theorem cutLine_bell : (cutLine s).bell = s.bell := rfl
@[simp] theorem cutLine_restart : (cutLine s).restart = s.restart := rfl
@[simp] theorem cutLine_journal : (cutLine s).journal = s.journal := rfl
@[simp] theorem cutLine_panel : (cutLine s).panel = s.panel := rfl
@[simp] theorem cutLine_counters : (cutLine s).counters = s.counters := rfl
@[simp] theorem cutLine_pending : (cutLine s).pending = s.pending := rfl

/-! ### beginLine -/

@[simp] theorem beginLine_starts : (beginLine s).starts = s.starts := rfl
@[simp] theorem beginLine_timebase : (beginLine s).timebase = s.timebase := rfl
@[simp] theorem beginLine_clock : (beginLine s).clock = s.clock := rfl
@[simp] theorem beginLine_announcements : (beginLine s).announcements = s.announcements := rfl
@[simp] theorem beginLine_peers : (beginLine s).peers = s.peers := rfl
@[simp] theorem beginLine_roster : (beginLine s).roster = s.roster := rfl
@[simp] theorem beginLine_entryChannel : (beginLine s).entryChannel = s.entryChannel := rfl
@[simp] theorem beginLine_exitChannel : (beginLine s).exitChannel = s.exitChannel := rfl
@[simp] theorem beginLine_waiting : (beginLine s).waiting = s.waiting := rfl
@[simp] theorem beginLine_pendingPunch : (beginLine s).pendingPunch = s.pendingPunch := rfl
@[simp] theorem beginLine_gate : (beginLine s).gate = s.gate := rfl
@[simp] theorem beginLine_settings : (beginLine s).settings = s.settings := rfl
@[simp] theorem beginLine_bell : (beginLine s).bell = s.bell := rfl
@[simp] theorem beginLine_restart : (beginLine s).restart = s.restart := rfl
@[simp] theorem beginLine_journal : (beginLine s).journal = s.journal := rfl
@[simp] theorem beginLine_panel : (beginLine s).panel = s.panel := rfl
@[simp] theorem beginLine_counters : (beginLine s).counters = s.counters := rfl
@[simp] theorem beginLine_pending : (beginLine s).pending = s.pending := rfl

/-! ### markJournal -/

@[simp] theorem markJournal_starts (n : PunchNotice) (m : Announcement) : (markJournal n m s).starts = s.starts := rfl
@[simp] theorem markJournal_timebase (n : PunchNotice) (m : Announcement) : (markJournal n m s).timebase = s.timebase := rfl
@[simp] theorem markJournal_clock (n : PunchNotice) (m : Announcement) : (markJournal n m s).clock = s.clock := rfl
@[simp] theorem markJournal_announcements (n : PunchNotice) (m : Announcement) : (markJournal n m s).announcements = s.announcements := rfl
@[simp] theorem markJournal_peers (n : PunchNotice) (m : Announcement) : (markJournal n m s).peers = s.peers := rfl
@[simp] theorem markJournal_roster (n : PunchNotice) (m : Announcement) : (markJournal n m s).roster = s.roster := rfl
@[simp] theorem markJournal_entryChannel (n : PunchNotice) (m : Announcement) : (markJournal n m s).entryChannel = s.entryChannel := rfl
@[simp] theorem markJournal_exitChannel (n : PunchNotice) (m : Announcement) : (markJournal n m s).exitChannel = s.exitChannel := rfl
@[simp] theorem markJournal_waiting (n : PunchNotice) (m : Announcement) : (markJournal n m s).waiting = s.waiting := rfl
@[simp] theorem markJournal_pendingPunch (n : PunchNotice) (m : Announcement) : (markJournal n m s).pendingPunch = s.pendingPunch := rfl
@[simp] theorem markJournal_gate (n : PunchNotice) (m : Announcement) : (markJournal n m s).gate = s.gate := rfl
@[simp] theorem markJournal_settings (n : PunchNotice) (m : Announcement) : (markJournal n m s).settings = s.settings := rfl
@[simp] theorem markJournal_bell (n : PunchNotice) (m : Announcement) : (markJournal n m s).bell = s.bell := rfl
@[simp] theorem markJournal_line (n : PunchNotice) (m : Announcement) : (markJournal n m s).line = s.line := rfl
@[simp] theorem markJournal_restart (n : PunchNotice) (m : Announcement) : (markJournal n m s).restart = s.restart := rfl
@[simp] theorem markJournal_panel (n : PunchNotice) (m : Announcement) : (markJournal n m s).panel = s.panel := rfl
@[simp] theorem markJournal_counters (n : PunchNotice) (m : Announcement) : (markJournal n m s).counters = s.counters := rfl
@[simp] theorem markJournal_pending (n : PunchNotice) (m : Announcement) : (markJournal n m s).pending = s.pending := rfl

/-! ### enterCycle -/

@[simp] theorem enterCycle_starts (c : Cycle) : (enterCycle c s).starts = s.starts := rfl
@[simp] theorem enterCycle_timebase (c : Cycle) : (enterCycle c s).timebase = s.timebase := rfl
@[simp] theorem enterCycle_clock (c : Cycle) : (enterCycle c s).clock = s.clock := rfl
@[simp] theorem enterCycle_announcements (c : Cycle) : (enterCycle c s).announcements = s.announcements := rfl
@[simp] theorem enterCycle_peers (c : Cycle) : (enterCycle c s).peers = s.peers := rfl
@[simp] theorem enterCycle_roster (c : Cycle) : (enterCycle c s).roster = s.roster := rfl
@[simp] theorem enterCycle_entryChannel (c : Cycle) : (enterCycle c s).entryChannel = s.entryChannel := rfl
@[simp] theorem enterCycle_exitChannel (c : Cycle) : (enterCycle c s).exitChannel = s.exitChannel := rfl
@[simp] theorem enterCycle_waiting (c : Cycle) : (enterCycle c s).waiting = s.waiting := rfl
@[simp] theorem enterCycle_pendingPunch (c : Cycle) : (enterCycle c s).pendingPunch = s.pendingPunch := rfl
@[simp] theorem enterCycle_settings (c : Cycle) : (enterCycle c s).settings = s.settings := rfl
@[simp] theorem enterCycle_bell (c : Cycle) : (enterCycle c s).bell = s.bell := rfl
@[simp] theorem enterCycle_line (c : Cycle) : (enterCycle c s).line = s.line := rfl
@[simp] theorem enterCycle_restart (c : Cycle) : (enterCycle c s).restart = s.restart := rfl
@[simp] theorem enterCycle_journal (c : Cycle) : (enterCycle c s).journal = s.journal := rfl
@[simp] theorem enterCycle_panel (c : Cycle) : (enterCycle c s).panel = s.panel := rfl
@[simp] theorem enterCycle_counters (c : Cycle) : (enterCycle c s).counters = s.counters := rfl
@[simp] theorem enterCycle_pending (c : Cycle) : (enterCycle c s).pending = s.pending := rfl

/-! ### enterReleased -/

@[simp] theorem enterReleased_starts : (enterReleased s).starts = s.starts := rfl
@[simp] theorem enterReleased_timebase : (enterReleased s).timebase = s.timebase := rfl
@[simp] theorem enterReleased_clock : (enterReleased s).clock = s.clock := rfl
@[simp] theorem enterReleased_announcements : (enterReleased s).announcements = s.announcements := rfl
@[simp] theorem enterReleased_peers : (enterReleased s).peers = s.peers := rfl
@[simp] theorem enterReleased_roster : (enterReleased s).roster = s.roster := rfl
@[simp] theorem enterReleased_entryChannel : (enterReleased s).entryChannel = s.entryChannel := rfl
@[simp] theorem enterReleased_exitChannel : (enterReleased s).exitChannel = s.exitChannel := rfl
@[simp] theorem enterReleased_waiting : (enterReleased s).waiting = s.waiting := rfl
@[simp] theorem enterReleased_pendingPunch : (enterReleased s).pendingPunch = s.pendingPunch := rfl
@[simp] theorem enterReleased_settings : (enterReleased s).settings = s.settings := rfl
@[simp] theorem enterReleased_bell : (enterReleased s).bell = s.bell := rfl
@[simp] theorem enterReleased_line : (enterReleased s).line = s.line := rfl
@[simp] theorem enterReleased_restart : (enterReleased s).restart = s.restart := rfl
@[simp] theorem enterReleased_journal : (enterReleased s).journal = s.journal := rfl
@[simp] theorem enterReleased_panel : (enterReleased s).panel = s.panel := rfl
@[simp] theorem enterReleased_counters : (enterReleased s).counters = s.counters := rfl
@[simp] theorem enterReleased_pending : (enterReleased s).pending = s.pending := rfl

/-! ### enterPassing -/

@[simp] theorem enterPassing_starts : (enterPassing s).starts = s.starts := rfl
@[simp] theorem enterPassing_timebase : (enterPassing s).timebase = s.timebase := rfl
@[simp] theorem enterPassing_clock : (enterPassing s).clock = s.clock := rfl
@[simp] theorem enterPassing_announcements : (enterPassing s).announcements = s.announcements := rfl
@[simp] theorem enterPassing_peers : (enterPassing s).peers = s.peers := rfl
@[simp] theorem enterPassing_roster : (enterPassing s).roster = s.roster := rfl
@[simp] theorem enterPassing_entryChannel : (enterPassing s).entryChannel = s.entryChannel := rfl
@[simp] theorem enterPassing_exitChannel : (enterPassing s).exitChannel = s.exitChannel := rfl
@[simp] theorem enterPassing_waiting : (enterPassing s).waiting = s.waiting := rfl
@[simp] theorem enterPassing_pendingPunch : (enterPassing s).pendingPunch = s.pendingPunch := rfl
@[simp] theorem enterPassing_settings : (enterPassing s).settings = s.settings := rfl
@[simp] theorem enterPassing_bell : (enterPassing s).bell = s.bell := rfl
@[simp] theorem enterPassing_line : (enterPassing s).line = s.line := rfl
@[simp] theorem enterPassing_restart : (enterPassing s).restart = s.restart := rfl
@[simp] theorem enterPassing_journal : (enterPassing s).journal = s.journal := rfl
@[simp] theorem enterPassing_panel : (enterPassing s).panel = s.panel := rfl
@[simp] theorem enterPassing_counters : (enterPassing s).counters = s.counters := rfl
@[simp] theorem enterPassing_pending : (enterPassing s).pending = s.pending := rfl

/-! ### stopGate -/

@[simp] theorem stopGate_starts : (stopGate s).starts = s.starts := rfl
@[simp] theorem stopGate_timebase : (stopGate s).timebase = s.timebase := rfl
@[simp] theorem stopGate_clock : (stopGate s).clock = s.clock := rfl
@[simp] theorem stopGate_announcements : (stopGate s).announcements = s.announcements := rfl
@[simp] theorem stopGate_peers : (stopGate s).peers = s.peers := rfl
@[simp] theorem stopGate_roster : (stopGate s).roster = s.roster := rfl
@[simp] theorem stopGate_entryChannel : (stopGate s).entryChannel = s.entryChannel := rfl
@[simp] theorem stopGate_exitChannel : (stopGate s).exitChannel = s.exitChannel := rfl
@[simp] theorem stopGate_waiting : (stopGate s).waiting = s.waiting := rfl
@[simp] theorem stopGate_pendingPunch : (stopGate s).pendingPunch = s.pendingPunch := rfl
@[simp] theorem stopGate_settings : (stopGate s).settings = s.settings := rfl
@[simp] theorem stopGate_bell : (stopGate s).bell = s.bell := rfl
@[simp] theorem stopGate_line : (stopGate s).line = s.line := rfl
@[simp] theorem stopGate_restart : (stopGate s).restart = s.restart := rfl
@[simp] theorem stopGate_journal : (stopGate s).journal = s.journal := rfl
@[simp] theorem stopGate_panel : (stopGate s).panel = s.panel := rfl
@[simp] theorem stopGate_counters : (stopGate s).counters = s.counters := rfl
@[simp] theorem stopGate_pending : (stopGate s).pending = s.pending := rfl

/-! ### beginSampling -/

@[simp] theorem beginSampling_starts : (beginSampling s).starts = s.starts := rfl
@[simp] theorem beginSampling_timebase : (beginSampling s).timebase = s.timebase := rfl
@[simp] theorem beginSampling_clock : (beginSampling s).clock = s.clock := rfl
@[simp] theorem beginSampling_announcements : (beginSampling s).announcements = s.announcements := rfl
@[simp] theorem beginSampling_peers : (beginSampling s).peers = s.peers := rfl
@[simp] theorem beginSampling_roster : (beginSampling s).roster = s.roster := rfl
@[simp] theorem beginSampling_entryChannel : (beginSampling s).entryChannel = s.entryChannel := rfl
@[simp] theorem beginSampling_exitChannel : (beginSampling s).exitChannel = s.exitChannel := rfl
@[simp] theorem beginSampling_waiting : (beginSampling s).waiting = s.waiting := rfl
@[simp] theorem beginSampling_pendingPunch : (beginSampling s).pendingPunch = s.pendingPunch := rfl
@[simp] theorem beginSampling_settings : (beginSampling s).settings = s.settings := rfl
@[simp] theorem beginSampling_bell : (beginSampling s).bell = s.bell := rfl
@[simp] theorem beginSampling_line : (beginSampling s).line = s.line := rfl
@[simp] theorem beginSampling_restart : (beginSampling s).restart = s.restart := rfl
@[simp] theorem beginSampling_journal : (beginSampling s).journal = s.journal := rfl
@[simp] theorem beginSampling_panel : (beginSampling s).panel = s.panel := rfl
@[simp] theorem beginSampling_counters : (beginSampling s).counters = s.counters := rfl
@[simp] theorem beginSampling_pending : (beginSampling s).pending = s.pending := rfl

/-! ### setMark -/

@[simp] theorem setMark_starts (i : Nat) : (setMark i s).starts = s.starts := rfl
@[simp] theorem setMark_timebase (i : Nat) : (setMark i s).timebase = s.timebase := rfl
@[simp] theorem setMark_clock (i : Nat) : (setMark i s).clock = s.clock := rfl
@[simp] theorem setMark_announcements (i : Nat) : (setMark i s).announcements = s.announcements := rfl
@[simp] theorem setMark_peers (i : Nat) : (setMark i s).peers = s.peers := rfl
@[simp] theorem setMark_roster (i : Nat) : (setMark i s).roster = s.roster := rfl
@[simp] theorem setMark_entryChannel (i : Nat) : (setMark i s).entryChannel = s.entryChannel := rfl
@[simp] theorem setMark_exitChannel (i : Nat) : (setMark i s).exitChannel = s.exitChannel := rfl
@[simp] theorem setMark_waiting (i : Nat) : (setMark i s).waiting = s.waiting := rfl
@[simp] theorem setMark_pendingPunch (i : Nat) : (setMark i s).pendingPunch = s.pendingPunch := rfl
@[simp] theorem setMark_gate (i : Nat) : (setMark i s).gate = s.gate := rfl
@[simp] theorem setMark_settings (i : Nat) : (setMark i s).settings = s.settings := rfl
@[simp] theorem setMark_line (i : Nat) : (setMark i s).line = s.line := rfl
@[simp] theorem setMark_restart (i : Nat) : (setMark i s).restart = s.restart := rfl
@[simp] theorem setMark_journal (i : Nat) : (setMark i s).journal = s.journal := rfl
@[simp] theorem setMark_panel (i : Nat) : (setMark i s).panel = s.panel := rfl
@[simp] theorem setMark_counters (i : Nat) : (setMark i s).counters = s.counters := rfl
@[simp] theorem setMark_pending (i : Nat) : (setMark i s).pending = s.pending := rfl

/-! ### clearMarks -/

@[simp] theorem clearMarks_starts : (clearMarks s).starts = s.starts := rfl
@[simp] theorem clearMarks_timebase : (clearMarks s).timebase = s.timebase := rfl
@[simp] theorem clearMarks_clock : (clearMarks s).clock = s.clock := rfl
@[simp] theorem clearMarks_announcements : (clearMarks s).announcements = s.announcements := rfl
@[simp] theorem clearMarks_peers : (clearMarks s).peers = s.peers := rfl
@[simp] theorem clearMarks_roster : (clearMarks s).roster = s.roster := rfl
@[simp] theorem clearMarks_entryChannel : (clearMarks s).entryChannel = s.entryChannel := rfl
@[simp] theorem clearMarks_exitChannel : (clearMarks s).exitChannel = s.exitChannel := rfl
@[simp] theorem clearMarks_waiting : (clearMarks s).waiting = s.waiting := rfl
@[simp] theorem clearMarks_pendingPunch : (clearMarks s).pendingPunch = s.pendingPunch := rfl
@[simp] theorem clearMarks_gate : (clearMarks s).gate = s.gate := rfl
@[simp] theorem clearMarks_settings : (clearMarks s).settings = s.settings := rfl
@[simp] theorem clearMarks_line : (clearMarks s).line = s.line := rfl
@[simp] theorem clearMarks_restart : (clearMarks s).restart = s.restart := rfl
@[simp] theorem clearMarks_journal : (clearMarks s).journal = s.journal := rfl
@[simp] theorem clearMarks_panel : (clearMarks s).panel = s.panel := rfl
@[simp] theorem clearMarks_counters : (clearMarks s).counters = s.counters := rfl
@[simp] theorem clearMarks_pending : (clearMarks s).pending = s.pending := rfl

/-! ### closeRush -/

@[simp] theorem closeRush_starts : (closeRush s).starts = s.starts := rfl
@[simp] theorem closeRush_timebase : (closeRush s).timebase = s.timebase := rfl
@[simp] theorem closeRush_clock : (closeRush s).clock = s.clock := rfl
@[simp] theorem closeRush_announcements : (closeRush s).announcements = s.announcements := rfl
@[simp] theorem closeRush_peers : (closeRush s).peers = s.peers := rfl
@[simp] theorem closeRush_roster : (closeRush s).roster = s.roster := rfl
@[simp] theorem closeRush_entryChannel : (closeRush s).entryChannel = s.entryChannel := rfl
@[simp] theorem closeRush_exitChannel : (closeRush s).exitChannel = s.exitChannel := rfl
@[simp] theorem closeRush_waiting : (closeRush s).waiting = s.waiting := rfl
@[simp] theorem closeRush_pendingPunch : (closeRush s).pendingPunch = s.pendingPunch := rfl
@[simp] theorem closeRush_gate : (closeRush s).gate = s.gate := rfl
@[simp] theorem closeRush_settings : (closeRush s).settings = s.settings := rfl
@[simp] theorem closeRush_line : (closeRush s).line = s.line := rfl
@[simp] theorem closeRush_restart : (closeRush s).restart = s.restart := rfl
@[simp] theorem closeRush_journal : (closeRush s).journal = s.journal := rfl
@[simp] theorem closeRush_panel : (closeRush s).panel = s.panel := rfl
@[simp] theorem closeRush_counters : (closeRush s).counters = s.counters := rfl
@[simp] theorem closeRush_pending : (closeRush s).pending = s.pending := rfl

/-! ### silenceBell -/

@[simp] theorem silenceBell_starts : (silenceBell s).starts = s.starts := rfl
@[simp] theorem silenceBell_timebase : (silenceBell s).timebase = s.timebase := rfl
@[simp] theorem silenceBell_clock : (silenceBell s).clock = s.clock := rfl
@[simp] theorem silenceBell_announcements : (silenceBell s).announcements = s.announcements := rfl
@[simp] theorem silenceBell_peers : (silenceBell s).peers = s.peers := rfl
@[simp] theorem silenceBell_roster : (silenceBell s).roster = s.roster := rfl
@[simp] theorem silenceBell_entryChannel : (silenceBell s).entryChannel = s.entryChannel := rfl
@[simp] theorem silenceBell_exitChannel : (silenceBell s).exitChannel = s.exitChannel := rfl
@[simp] theorem silenceBell_waiting : (silenceBell s).waiting = s.waiting := rfl
@[simp] theorem silenceBell_pendingPunch : (silenceBell s).pendingPunch = s.pendingPunch := rfl
@[simp] theorem silenceBell_gate : (silenceBell s).gate = s.gate := rfl
@[simp] theorem silenceBell_settings : (silenceBell s).settings = s.settings := rfl
@[simp] theorem silenceBell_line : (silenceBell s).line = s.line := rfl
@[simp] theorem silenceBell_restart : (silenceBell s).restart = s.restart := rfl
@[simp] theorem silenceBell_journal : (silenceBell s).journal = s.journal := rfl
@[simp] theorem silenceBell_panel : (silenceBell s).panel = s.panel := rfl
@[simp] theorem silenceBell_counters : (silenceBell s).counters = s.counters := rfl
@[simp] theorem silenceBell_pending : (silenceBell s).pending = s.pending := rfl

/-! ### emptyWaiting -/

@[simp] theorem emptyWaiting_starts : (emptyWaiting s).starts = s.starts := rfl
@[simp] theorem emptyWaiting_timebase : (emptyWaiting s).timebase = s.timebase := rfl
@[simp] theorem emptyWaiting_clock : (emptyWaiting s).clock = s.clock := rfl
@[simp] theorem emptyWaiting_announcements : (emptyWaiting s).announcements = s.announcements := rfl
@[simp] theorem emptyWaiting_peers : (emptyWaiting s).peers = s.peers := rfl
@[simp] theorem emptyWaiting_roster : (emptyWaiting s).roster = s.roster := rfl
@[simp] theorem emptyWaiting_entryChannel : (emptyWaiting s).entryChannel = s.entryChannel := rfl
@[simp] theorem emptyWaiting_exitChannel : (emptyWaiting s).exitChannel = s.exitChannel := rfl
@[simp] theorem emptyWaiting_pendingPunch : (emptyWaiting s).pendingPunch = s.pendingPunch := rfl
@[simp] theorem emptyWaiting_gate : (emptyWaiting s).gate = s.gate := rfl
@[simp] theorem emptyWaiting_settings : (emptyWaiting s).settings = s.settings := rfl
@[simp] theorem emptyWaiting_bell : (emptyWaiting s).bell = s.bell := rfl
@[simp] theorem emptyWaiting_line : (emptyWaiting s).line = s.line := rfl
@[simp] theorem emptyWaiting_restart : (emptyWaiting s).restart = s.restart := rfl
@[simp] theorem emptyWaiting_journal : (emptyWaiting s).journal = s.journal := rfl
@[simp] theorem emptyWaiting_panel : (emptyWaiting s).panel = s.panel := rfl
@[simp] theorem emptyWaiting_counters : (emptyWaiting s).counters = s.counters := rfl
@[simp] theorem emptyWaiting_pending : (emptyWaiting s).pending = s.pending := rfl

/-! ### clearChannels -/

@[simp] theorem clearChannels_starts : (clearChannels s).starts = s.starts := rfl
@[simp] theorem clearChannels_timebase : (clearChannels s).timebase = s.timebase := rfl
@[simp] theorem clearChannels_clock : (clearChannels s).clock = s.clock := rfl
@[simp] theorem clearChannels_announcements : (clearChannels s).announcements = s.announcements := rfl
@[simp] theorem clearChannels_peers : (clearChannels s).peers = s.peers := rfl
@[simp] theorem clearChannels_roster : (clearChannels s).roster = s.roster := rfl
@[simp] theorem clearChannels_waiting : (clearChannels s).waiting = s.waiting := rfl
@[simp] theorem clearChannels_pendingPunch : (clearChannels s).pendingPunch = s.pendingPunch := rfl
@[simp] theorem clearChannels_gate : (clearChannels s).gate = s.gate := rfl
@[simp] theorem clearChannels_settings : (clearChannels s).settings = s.settings := rfl
@[simp] theorem clearChannels_bell : (clearChannels s).bell = s.bell := rfl
@[simp] theorem clearChannels_line : (clearChannels s).line = s.line := rfl
@[simp] theorem clearChannels_restart : (clearChannels s).restart = s.restart := rfl
@[simp] theorem clearChannels_journal : (clearChannels s).journal = s.journal := rfl
@[simp] theorem clearChannels_panel : (clearChannels s).panel = s.panel := rfl
@[simp] theorem clearChannels_counters : (clearChannels s).counters = s.counters := rfl
@[simp] theorem clearChannels_pending : (clearChannels s).pending = s.pending := rfl

/-! ### stopPanel -/

@[simp] theorem stopPanel_starts : (stopPanel s).starts = s.starts := rfl
@[simp] theorem stopPanel_timebase : (stopPanel s).timebase = s.timebase := rfl
@[simp] theorem stopPanel_clock : (stopPanel s).clock = s.clock := rfl
@[simp] theorem stopPanel_announcements : (stopPanel s).announcements = s.announcements := rfl
@[simp] theorem stopPanel_peers : (stopPanel s).peers = s.peers := rfl
@[simp] theorem stopPanel_roster : (stopPanel s).roster = s.roster := rfl
@[simp] theorem stopPanel_entryChannel : (stopPanel s).entryChannel = s.entryChannel := rfl
@[simp] theorem stopPanel_exitChannel : (stopPanel s).exitChannel = s.exitChannel := rfl
@[simp] theorem stopPanel_waiting : (stopPanel s).waiting = s.waiting := rfl
@[simp] theorem stopPanel_pendingPunch : (stopPanel s).pendingPunch = s.pendingPunch := rfl
@[simp] theorem stopPanel_gate : (stopPanel s).gate = s.gate := rfl
@[simp] theorem stopPanel_settings : (stopPanel s).settings = s.settings := rfl
@[simp] theorem stopPanel_bell : (stopPanel s).bell = s.bell := rfl
@[simp] theorem stopPanel_line : (stopPanel s).line = s.line := rfl
@[simp] theorem stopPanel_restart : (stopPanel s).restart = s.restart := rfl
@[simp] theorem stopPanel_journal : (stopPanel s).journal = s.journal := rfl
@[simp] theorem stopPanel_counters : (stopPanel s).counters = s.counters := rfl
@[simp] theorem stopPanel_pending : (stopPanel s).pending = s.pending := rfl

/-! ### endRestart -/

@[simp] theorem endRestart_starts : (endRestart s).starts = s.starts := rfl
@[simp] theorem endRestart_timebase : (endRestart s).timebase = s.timebase := rfl
@[simp] theorem endRestart_clock : (endRestart s).clock = s.clock := rfl
@[simp] theorem endRestart_announcements : (endRestart s).announcements = s.announcements := rfl
@[simp] theorem endRestart_peers : (endRestart s).peers = s.peers := rfl
@[simp] theorem endRestart_roster : (endRestart s).roster = s.roster := rfl
@[simp] theorem endRestart_entryChannel : (endRestart s).entryChannel = s.entryChannel := rfl
@[simp] theorem endRestart_exitChannel : (endRestart s).exitChannel = s.exitChannel := rfl
@[simp] theorem endRestart_waiting : (endRestart s).waiting = s.waiting := rfl
@[simp] theorem endRestart_pendingPunch : (endRestart s).pendingPunch = s.pendingPunch := rfl
@[simp] theorem endRestart_gate : (endRestart s).gate = s.gate := rfl
@[simp] theorem endRestart_settings : (endRestart s).settings = s.settings := rfl
@[simp] theorem endRestart_bell : (endRestart s).bell = s.bell := rfl
@[simp] theorem endRestart_line : (endRestart s).line = s.line := rfl
@[simp] theorem endRestart_journal : (endRestart s).journal = s.journal := rfl
@[simp] theorem endRestart_panel : (endRestart s).panel = s.panel := rfl
@[simp] theorem endRestart_counters : (endRestart s).counters = s.counters := rfl
@[simp] theorem endRestart_pending : (endRestart s).pending = s.pending := rfl

/-! ### clearPeers -/

@[simp] theorem clearPeers_starts : (clearPeers s).starts = s.starts := rfl
@[simp] theorem clearPeers_timebase : (clearPeers s).timebase = s.timebase := rfl
@[simp] theorem clearPeers_clock : (clearPeers s).clock = s.clock := rfl
@[simp] theorem clearPeers_announcements : (clearPeers s).announcements = s.announcements := rfl
@[simp] theorem clearPeers_roster : (clearPeers s).roster = s.roster := rfl
@[simp] theorem clearPeers_entryChannel : (clearPeers s).entryChannel = s.entryChannel := rfl
@[simp] theorem clearPeers_exitChannel : (clearPeers s).exitChannel = s.exitChannel := rfl
@[simp] theorem clearPeers_waiting : (clearPeers s).waiting = s.waiting := rfl
@[simp] theorem clearPeers_pendingPunch : (clearPeers s).pendingPunch = s.pendingPunch := rfl
@[simp] theorem clearPeers_gate : (clearPeers s).gate = s.gate := rfl
@[simp] theorem clearPeers_settings : (clearPeers s).settings = s.settings := rfl
@[simp] theorem clearPeers_bell : (clearPeers s).bell = s.bell := rfl
@[simp] theorem clearPeers_line : (clearPeers s).line = s.line := rfl
@[simp] theorem clearPeers_restart : (clearPeers s).restart = s.restart := rfl
@[simp] theorem clearPeers_journal : (clearPeers s).journal = s.journal := rfl
@[simp] theorem clearPeers_panel : (clearPeers s).panel = s.panel := rfl
@[simp] theorem clearPeers_counters : (clearPeers s).counters = s.counters := rfl
@[simp] theorem clearPeers_pending : (clearPeers s).pending = s.pending := rfl

/-! ### stopBeacon -/

@[simp] theorem stopBeacon_starts : (stopBeacon s).starts = s.starts := rfl
@[simp] theorem stopBeacon_timebase : (stopBeacon s).timebase = s.timebase := rfl
@[simp] theorem stopBeacon_clock : (stopBeacon s).clock = s.clock := rfl
@[simp] theorem stopBeacon_announcements : (stopBeacon s).announcements = s.announcements := rfl
@[simp] theorem stopBeacon_roster : (stopBeacon s).roster = s.roster := rfl
@[simp] theorem stopBeacon_entryChannel : (stopBeacon s).entryChannel = s.entryChannel := rfl
@[simp] theorem stopBeacon_exitChannel : (stopBeacon s).exitChannel = s.exitChannel := rfl
@[simp] theorem stopBeacon_waiting : (stopBeacon s).waiting = s.waiting := rfl
@[simp] theorem stopBeacon_pendingPunch : (stopBeacon s).pendingPunch = s.pendingPunch := rfl
@[simp] theorem stopBeacon_gate : (stopBeacon s).gate = s.gate := rfl
@[simp] theorem stopBeacon_settings : (stopBeacon s).settings = s.settings := rfl
@[simp] theorem stopBeacon_bell : (stopBeacon s).bell = s.bell := rfl
@[simp] theorem stopBeacon_line : (stopBeacon s).line = s.line := rfl
@[simp] theorem stopBeacon_restart : (stopBeacon s).restart = s.restart := rfl
@[simp] theorem stopBeacon_journal : (stopBeacon s).journal = s.journal := rfl
@[simp] theorem stopBeacon_panel : (stopBeacon s).panel = s.panel := rfl
@[simp] theorem stopBeacon_counters : (stopBeacon s).counters = s.counters := rfl
@[simp] theorem stopBeacon_pending : (stopBeacon s).pending = s.pending := rfl

/-! ### beginBeacon -/

@[simp] theorem beginBeacon_starts : (beginBeacon s).starts = s.starts := rfl
@[simp] theorem beginBeacon_timebase : (beginBeacon s).timebase = s.timebase := rfl
@[simp] theorem beginBeacon_clock : (beginBeacon s).clock = s.clock := rfl
@[simp] theorem beginBeacon_announcements : (beginBeacon s).announcements = s.announcements := rfl
@[simp] theorem beginBeacon_roster : (beginBeacon s).roster = s.roster := rfl
@[simp] theorem beginBeacon_entryChannel : (beginBeacon s).entryChannel = s.entryChannel := rfl
@[simp] theorem beginBeacon_exitChannel : (beginBeacon s).exitChannel = s.exitChannel := rfl
@[simp] theorem beginBeacon_waiting : (beginBeacon s).waiting = s.waiting := rfl
@[simp] theorem beginBeacon_pendingPunch : (beginBeacon s).pendingPunch = s.pendingPunch := rfl
@[simp] theorem beginBeacon_gate : (beginBeacon s).gate = s.gate := rfl
@[simp] theorem beginBeacon_settings : (beginBeacon s).settings = s.settings := rfl
@[simp] theorem beginBeacon_bell : (beginBeacon s).bell = s.bell := rfl
@[simp] theorem beginBeacon_line : (beginBeacon s).line = s.line := rfl
@[simp] theorem beginBeacon_restart : (beginBeacon s).restart = s.restart := rfl
@[simp] theorem beginBeacon_journal : (beginBeacon s).journal = s.journal := rfl
@[simp] theorem beginBeacon_panel : (beginBeacon s).panel = s.panel := rfl
@[simp] theorem beginBeacon_counters : (beginBeacon s).counters = s.counters := rfl
@[simp] theorem beginBeacon_pending : (beginBeacon s).pending = s.pending := rfl

/-! ### clearCounters -/

@[simp] theorem clearCounters_starts : (clearCounters s).starts = s.starts := rfl
@[simp] theorem clearCounters_timebase : (clearCounters s).timebase = s.timebase := rfl
@[simp] theorem clearCounters_clock : (clearCounters s).clock = s.clock := rfl
@[simp] theorem clearCounters_announcements : (clearCounters s).announcements = s.announcements := rfl
@[simp] theorem clearCounters_peers : (clearCounters s).peers = s.peers := rfl
@[simp] theorem clearCounters_roster : (clearCounters s).roster = s.roster := rfl
@[simp] theorem clearCounters_entryChannel : (clearCounters s).entryChannel = s.entryChannel := rfl
@[simp] theorem clearCounters_exitChannel : (clearCounters s).exitChannel = s.exitChannel := rfl
@[simp] theorem clearCounters_waiting : (clearCounters s).waiting = s.waiting := rfl
@[simp] theorem clearCounters_pendingPunch : (clearCounters s).pendingPunch = s.pendingPunch := rfl
@[simp] theorem clearCounters_gate : (clearCounters s).gate = s.gate := rfl
@[simp] theorem clearCounters_settings : (clearCounters s).settings = s.settings := rfl
@[simp] theorem clearCounters_bell : (clearCounters s).bell = s.bell := rfl
@[simp] theorem clearCounters_line : (clearCounters s).line = s.line := rfl
@[simp] theorem clearCounters_restart : (clearCounters s).restart = s.restart := rfl
@[simp] theorem clearCounters_journal : (clearCounters s).journal = s.journal := rfl
@[simp] theorem clearCounters_panel : (clearCounters s).panel = s.panel := rfl
@[simp] theorem clearCounters_pending : (clearCounters s).pending = s.pending := rfl

/-! ### What the updates put -/

@[simp] theorem enqueue_tx (p : TxPayload) : (enqueue p s).line.tx = s.line.tx ++ [{ payload := p, attempts := 0 }] := rfl
@[simp] theorem enqueue_reserved (p : TxPayload) : (enqueue p s).line.reserved = s.line.reserved := rfl
@[simp] theorem enqueue_rx (p : TxPayload) : (enqueue p s).line.rx = s.line.rx := rfl
@[simp] theorem reserve_tx : (reserve s).line.tx = s.line.tx := rfl
@[simp] theorem reserve_reserved : (reserve s).line.reserved = s.line.reserved + 1 := rfl
@[simp] theorem unreserve_tx : (unreserve s).line.tx = s.line.tx := rfl
@[simp] theorem unreserve_reserved : (unreserve s).line.reserved = s.line.reserved - 1 := rfl
@[simp] theorem popHead_tx : (popHead s).line.tx = s.line.tx.tail := rfl
@[simp] theorem popHead_reserved : (popHead s).line.reserved = s.line.reserved := rfl
@[simp] theorem popHead_backoff : (popHead s).line.backoff = 0 := rfl
@[simp] theorem setAssembly_tx (a : Option (List Byte)) : (setAssembly a s).line.tx = s.line.tx := rfl
@[simp] theorem setAssembly_rx (a : Option (List Byte)) : (setAssembly a s).line.rx = s.line.rx := rfl
@[simp] theorem setAssembly_assembly (a : Option (List Byte)) : (setAssembly a s).line.assembly = a := rfl
@[simp] theorem enterCycle_cycle (c : Cycle) : (enterCycle c s).gate.cycle = c := rfl
@[simp] theorem enterReleased_cycle : (enterReleased s).gate.cycle = .released := rfl
@[simp] theorem enterPassing_cycle : (enterPassing s).gate.cycle = .passing := rfl
@[simp] theorem emptyWaiting_waiting : (emptyWaiting s).waiting = [] := rfl
@[simp] theorem endRestart_restart : (endRestart s).restart = .none := rfl

/-! ### Channels -/

@[simp] theorem channel_setChannel (r : Reader) (c : Channel) : (s.setChannel r c).channel r = c := by cases r <;> rfl
theorem channel_setChannel_of_ne {r q : Reader} (c : Channel) (h : q ≠ r) : (s.setChannel r c).channel q = s.channel q := by
  cases r <;> cases q <;> first | rfl | exact absurd rfl h
@[simp] theorem channel_bump (c : Counter) (r : Reader) : (bump c s).channel r = s.channel r := by cases r <;> rfl
@[simp] theorem setChannel_starts (r : Reader) (c : Channel) : (s.setChannel r c).starts = s.starts := by cases r <;> rfl
@[simp] theorem setChannel_timebase (r : Reader) (c : Channel) : (s.setChannel r c).timebase = s.timebase := by cases r <;> rfl
@[simp] theorem setChannel_clock (r : Reader) (c : Channel) : (s.setChannel r c).clock = s.clock := by cases r <;> rfl
@[simp] theorem setChannel_announcements (r : Reader) (c : Channel) : (s.setChannel r c).announcements = s.announcements := by cases r <;> rfl
@[simp] theorem setChannel_peers (r : Reader) (c : Channel) : (s.setChannel r c).peers = s.peers := by cases r <;> rfl
@[simp] theorem setChannel_roster (r : Reader) (c : Channel) : (s.setChannel r c).roster = s.roster := by cases r <;> rfl
@[simp] theorem setChannel_waiting (r : Reader) (c : Channel) : (s.setChannel r c).waiting = s.waiting := by cases r <;> rfl
@[simp] theorem setChannel_pendingPunch (r : Reader) (c : Channel) : (s.setChannel r c).pendingPunch = s.pendingPunch := by cases r <;> rfl
@[simp] theorem setChannel_gate (r : Reader) (c : Channel) : (s.setChannel r c).gate = s.gate := by cases r <;> rfl
@[simp] theorem setChannel_settings (r : Reader) (c : Channel) : (s.setChannel r c).settings = s.settings := by cases r <;> rfl
@[simp] theorem setChannel_bell (r : Reader) (c : Channel) : (s.setChannel r c).bell = s.bell := by cases r <;> rfl
@[simp] theorem setChannel_line (r : Reader) (c : Channel) : (s.setChannel r c).line = s.line := by cases r <;> rfl
@[simp] theorem setChannel_restart (r : Reader) (c : Channel) : (s.setChannel r c).restart = s.restart := by cases r <;> rfl
@[simp] theorem setChannel_journal (r : Reader) (c : Channel) : (s.setChannel r c).journal = s.journal := by cases r <;> rfl
@[simp] theorem setChannel_panel (r : Reader) (c : Channel) : (s.setChannel r c).panel = s.panel := by cases r <;> rfl
@[simp] theorem setChannel_counters (r : Reader) (c : Channel) : (s.setChannel r c).counters = s.counters := by cases r <;> rfl
@[simp] theorem setChannel_pending (r : Reader) (c : Channel) : (s.setChannel r c).pending = s.pending := by cases r <;> rfl

/-! ### Reads -/

@[simp] theorem setStuck_bits (x : ReadInProgress) (r : Rail) (b : Bool) : (x.setStuck r b).bits = x.bits := by cases r <;> rfl
@[simp] theorem setStuck_count (x : ReadInProgress) (r : Rail) (b : Bool) : (x.setStuck r b).count = x.count := by cases r <;> rfl
@[simp] theorem setStuck_spoiled (x : ReadInProgress) (r : Rail) (b : Bool) : (x.setStuck r b).spoiled = x.spoiled := by cases r <;> rfl
@[simp] theorem setStuck_lastEnd (x : ReadInProgress) (r : Rail) (b : Bool) : (x.setStuck r b).lastEnd = x.lastEnd := by cases r <;> rfl
@[simp] theorem setStuck_zero (x : ReadInProgress) (b : Bool) : x.setStuck .zero b = { x with zeroStuck := b } := rfl
@[simp] theorem setStuck_one (x : ReadInProgress) (b : Bool) : x.setStuck .one b = { x with oneStuck := b } := rfl

/-! ### Counters -/

/-- Each counter has its own index (R157). -/
theorem index_injective {c d : Counter} (h : c.index = d.index) : c = d := by
  cases c <;> cases d <;> first | rfl | exact absurd h (by decide)

theorem counter_addCount (c d : Counter) (n : Nat) :
    (addCount c n s).counter d = if c = d then min Config.counterMax (s.counter c + n) else s.counter d := by
  change (s.counters.set c.index.val _ c.index.isLt)[d.index.val]'d.index.isLt = _
  rw [Vector.getElem_set]
  by_cases h : c = d
  · subst h
    rw [if_pos rfl, if_pos rfl]
    rfl
  · rw [if_neg h, if_neg (fun e => h (index_injective (Fin.ext e)))]
    rfl

theorem counter_bump (c d : Counter) :
    (bump c s).counter d = if c = d then min Config.counterMax (s.counter c + 1) else s.counter d := counter_addCount ..

@[simp] theorem counter_bump_self (c : Counter) : (bump c s).counter c = min Config.counterMax (s.counter c + 1) := by
  simp [counter_bump]

/-! ### Conditions see only the supplies, the pin and the configuration read -/

theorem running_congr {s t : State} (h : t.starts = s.starts) : running t = running s := by simp [running, h]
theorem panelRuns_congr {s t : State} (h : t.starts = s.starts) : panelRuns t = panelRuns s := by simp [panelRuns, h]

end Sys2Proof.Machine
end

