-- ==== Sys2Proof/Laws/Outcomes.lean ====
section
/-! SUPPORT. What the shared operations leave, in the terms of Safety.lean: the journal's entry, the overlay, the indication, a
refusal, the commit of a punch. -/

namespace Sys2Proof.Machine

theorem writeJournal_journal (stamp : Stamp) (r : Option Reader) (b : Option Nat) (o : JournalOutcome) (a : Announcement)
    (f : Option PunchFlags) (s : State) : (writeJournal stamp r b o a f s).journal =
      { entries := (if 512 ≤ s.journal.entries.length then s.journal.entries.tail else s.journal.entries) ++
          [{ sequence := s.journal.next, stamp := stamp, clockSet := s.clock.isSet, reader := r, badge := b,
             outcome := o, announcement := a, flags := f }],
        next := (s.journal.next + 1) % 65536 } := by
  unfold writeJournal bumpIf
  dsimp only
  by_cases h : 512 ≤ s.journal.entries.length <;> simp [h, Config.journalMax, bump, addCount]

/-- A journal entry raises no counter but JOURNAL OVERWRITTEN. -/
theorem writeJournal_counter (stamp : Stamp) (r : Option Reader) (b : Option Nat) (o : JournalOutcome) (a : Announcement)
    (f : Option PunchFlags) (s : State) (k : Counter) (h : k ≠ .journalOverwritten) :
    (writeJournal stamp r b o a f s).counter k = s.counter k := by
  unfold writeJournal bumpIf
  dsimp only
  split
  · exact (counter_bump _ _ _).trans (if_neg (Ne.symm h))
  · rfl

theorem wrote_writeJournal (stamp : Stamp) (r : Option Reader) (b : Option Nat) (o : JournalOutcome) (a : Announcement)
    (f : Option PunchFlags) (s : State) : wrote s (writeJournal stamp r b o a f s) stamp r b o a f := writeJournal_journal ..

theorem Panel.kick_keeps (p : Panel) :
    p.kick.row1 = p.row1 ∧ p.kick.row2 = p.row2 ∧ p.kick.overlay = p.overlay ∧ p.kick.base = p.base ∧
      p.kick.messages = p.messages := by
  unfold Panel.kick
  split
  · exact ⟨rfl, rfl, rfl, rfl, rfl⟩
  · split
    · exact ⟨rfl, rfl, rfl, rfl, rfl⟩
    · split <;> exact ⟨rfl, rfl, rfl, rfl, rfl⟩

theorem Panel.setRow1_keeps (p : Panel) (c : List Byte) :
    (p.setRow1 c).row1 = c ∧ (p.setRow1 c).row2 = p.row2 ∧ (p.setRow1 c).overlay = p.overlay ∧ (p.setRow1 c).base = p.base ∧
      (p.setRow1 c).messages = p.messages := by
  unfold Panel.setRow1
  split
  · rename_i h; exact ⟨h, rfl, rfl, rfl, rfl⟩
  · obtain ⟨a, b, c, d, e⟩ := Panel.kick_keeps { p with row1 := c, mark1 := true }
    exact ⟨a, b, c, d, e⟩

theorem overlaid_openOverlay (s : State) (text : List Byte) (d : Nat) (t : State)
    (h : t.panel = s.panel.openOverlay s.now d text) : overlaid s t text d := by
  unfold overlaid
  rw [h]
  unfold Panel.openOverlay
  dsimp only
  obtain ⟨a, b, c, d, e⟩ := Panel.setRow1_keeps
    { s.panel with overlay := some { saved := (match s.panel.overlay with | none => s.panel.row1 | some o => o.saved),
                                     timer := { start := s.now, duration := d } } } text
  exact ⟨a, c⟩

theorem channel_setChannel_other (s : State) (r : Reader) (c : Channel) :
    (s.setChannel r c).channel (otherReader r) = s.channel (otherReader r) := by
  cases r <;> rfl

theorem panelRuns_of_running (s : State) (h : running s = true) : panelRuns s = true := by
  simp [running] at h; simp [panelRuns, h]

theorem indicated_indicate (s : State) (r : Reader) (b : Bool) : indicated s (indicate r b s) r b := by
  unfold indicated indicate
  rw [channel_setChannel]
  refine ⟨rfl, ?_⟩
  cases b <;> rfl

theorem refuseAtChannel_refusedAt (r : Reader) (b : Option Nat) (why : Reason) (s : State) (h : running s = true) :
    refusedAt s (refuseAtChannel r b why s) r b why ∧
      (refuseAtChannel r b why s).channel r =
        { s.channel r with indication := ((refuseAtChannel r b why s).channel r).indication,
                           tone := ((refuseAtChannel r b why s).channel r).tone } := by
  unfold refuseAtChannel
  obtain ⟨u, hu⟩ : ∃ u, u = writeJournal s.clock.stamp (some r) b (.refused why) .none none s := ⟨_, rfl⟩
  have hw : wrote s u s.clock.stamp (some r) b (.refused why) .none none := hu ▸ wrote_writeJournal ..
  obtain ⟨j, k, e⟩ := writeJournal_changes s.clock.stamp (some r) b (.refused why) .none none s
  rw [← hu] at e ⊢
  clear hu
  have hru : panelRuns u = true := by rw [e]; exact panelRuns_of_running s h
  obtain ⟨v, hv⟩ : ∃ v, v = showResult (refusalText why) u := ⟨_, rfl⟩
  rw [← hv]
  unfold showResult at hv
  rw [if_pos hru] at hv
  have hind := indicated_indicate v r false
  have hch : ∀ q, v.channel q = s.channel q := by intro q; rw [hv, e]; cases q <;> rfl
  have hnow : v.now = s.now := by rw [hv, e]; rfl
  have hj : (indicate r false v).journal = u.journal := by unfold indicate; rw [setChannel_journal, hv]
  have hp : (indicate r false v).panel = u.panel.openOverlay u.now Config.resultOverlay (refusalText why) := by
    unfold indicate; rw [setChannel_panel, hv]
  refine ⟨⟨?_, ?_, ?_, ?_⟩, ?_⟩
  · unfold wrote at hw ⊢; rw [hj, hw]
  · apply overlaid_openOverlay; rw [hp, e]; rfl
  · unfold indicated at hind ⊢; rw [hnow] at hind; exact hind
  · unfold indicate; rw [channel_setChannel_other, hch]
  · unfold indicate; rw [channel_setChannel, hch]

/-- R47: all that an outcome's entry does to a suppression list. -/
theorem listed_of_suppress (s t : State) (r : Reader) (badge : Nat)
    (h : (t.channel r).suppression = suppress badge s.now (s.channel r).suppression) : listed s t r badge := by
  intro others ho
  have hs : (t.channel r).suppression =
      if 8 < (others ++ [({ badge := badge, time := s.now } : Suppressed)]).length then
        (others ++ [({ badge := badge, time := s.now } : Suppressed)]).tail
      else others ++ [{ badge := badge, time := s.now }] := by rw [h, ho]; rfl
  rw [List.length_append, List.length_singleton] at hs
  constructor
  · intro hl; rw [hs, if_neg (by omega)]
  · intro hl
    rw [hs, if_pos (by omega)]
    cases others with
    | nil => simp at hl
    | cons a l => rfl

theorem refuseRead_refusedAt (r : Reader) (b : Nat) (why : Reason) (s : State) (h : running s = true) :
    refusedAt s (refuseRead r b why s) r (some b) why ∧ listed s (refuseRead r b why s) r b ∧
      ((refuseRead r b why s).channel r).read = (s.channel r).read := by
  unfold refuseRead
  obtain ⟨⟨h1, h2, h3, h4⟩, h5⟩ := refuseAtChannel_refusedAt r (some b) why s h
  obtain ⟨j, k, p, e, x, hc⟩ := refuseAtChannel_changes r (some b) why s
  have hnow : (refuseAtChannel r (some b) why s).now = s.now := by rw [hc]; rfl
  obtain ⟨u, hu⟩ : ∃ u, u = refuseAtChannel r (some b) why s := ⟨_, rfl⟩
  rw [← hu] at h1 h2 h3 h4 h5 hnow ⊢
  clear hu hc
  unfold noteOutcome
  refine ⟨⟨?_, ?_, ?_, ?_⟩, ?_, ?_⟩
  · unfold wrote at h1 ⊢; rw [setChannel_journal, h1]
  · unfold overlaid at h2 ⊢; rw [setChannel_panel]; exact h2
  · unfold indicated at h3 ⊢; rw [channel_setChannel]; exact h3
  · rw [channel_setChannel_other]; exact h4
  · apply listed_of_suppress; rw [channel_setChannel, hnow, h5]
  · rw [channel_setChannel, h5]

theorem running_of_channelEnabled (s : State) (r : Reader) (h : channelEnabled s r = true) : running s = true := by
  simp [channelEnabled] at h; exact h.1

theorem testHead_cases (s : State) :
    testHead s = s ∨ ∃ h rest, s.waiting = h :: rest ∧
      testHead s = bump .decisionHeld { s with waiting := { h with held := true } :: rest } := by
  unfold testHead
  split
  · left; rfl
  · rename_i h rest hw
    split
    · right; exact ⟨h, rest, hw, rfl⟩
    · left; rfl

theorem Input.take_of_latched (i : Input) (level : Bool) (later : List Latched)
    (h : i.latched = { level := level, early := false } :: later) :
    i.take level = some ({ i with latched := later }, false) := by
  unfold Input.take; rw [h]; simp

theorem testHead_of_not_decides (s : State) (h : s.gate.cycle.decides = false) : testHead s = s := by
  unfold testHead; split
  · rfl
  · rw [if_neg]; simp [h]

/-- R38: all that settling a record does to the roster. -/
theorem settleRecord_settledAs (y : Record) (roster : List Record) : settledAs y roster (settleRecord y roster) := by
  unfold settledAs settleRecord
  refine ⟨fun h1 h2 => if_pos ⟨h1, h2⟩, fun h => if_neg ?_⟩
  rintro ⟨h1, h2⟩
  exact h.elim (fun g => g h1) (fun g => g h2)

/-- The roster's part of a commit reads nothing but the roster and the settings. -/
theorem commitRoster_congr (p : PendingPunch) (stamp : Stamp) (s u : State) (h1 : u.roster = s.roster) (h2 : u.settings = s.settings) :
    (commitRoster p stamp u).1.roster = (commitRoster p stamp s).1.roster ∧ (commitRoster p stamp u).2 = (commitRoster p stamp s).2 := by
  unfold commitRoster State.record
  rw [h1, h2]
  dsimp only
  cases findRecord p.badge s.roster with
  | none => exact ⟨h1, rfl⟩
  | some x =>
    dsimp only
    cases readerDirection p.reader with
    | inward => exact ⟨rfl, rfl⟩
    | outward => cases x.interval <;> exact ⟨rfl, rfl⟩

/-- Everything the commit of a pending punch does. -/
theorem commitPunch_committed (p : PendingPunch) (stamp : Stamp) (s : State) (h : panelRuns s = true) :
    committed s (commitPunch p stamp s) p stamp (s.line.reserved - 1) ∧
      ((commitRoster p stamp s).2.message = none → (commitPunch p stamp s).panel = s.panel) ∧
      commitPunch p stamp s =
        { s with journal := (commitPunch p stamp s).journal, pendingPunch := none, counters := (commitPunch p stamp s).counters,
                 line := (commitPunch p stamp s).line, roster := (commitPunch p stamp s).roster,
                 panel := (commitPunch p stamp s).panel } := by
  obtain ⟨r, k, j, a, l, hc⟩ := commitPunch_changes p stamp s
  refine ⟨?_, ?_, by rw [hc]⟩
  · unfold committed commitPunch
    dsimp only
    obtain ⟨r', k', e⟩ := commitRoster_changes p stamp s
    obtain ⟨u, hu⟩ : ∃ u, u = (commitRoster p stamp s).1 := ⟨_, rfl⟩
    rw [← hu] at e ⊢
    obtain ⟨n, hn⟩ : ∃ n, n = commitNotice p stamp (commitRoster p stamp s).2 u.journal.next := ⟨_, rfl⟩
    rw [← hn]
    obtain ⟨v, hv⟩ : ∃ v, v = writeJournal stamp (some p.reader) (some p.badge) (admittedOutcome n.direction) .queued (some n.flags) u :=
      ⟨_, rfl⟩
    have hj : v.journal = _ := hv ▸ writeJournal_journal ..
    have hk : ∀ k, k ≠ .journalOverwritten → v.counter k = u.counter k := fun k h => hv ▸ writeJournal_counter _ _ _ _ _ _ _ k h
    obtain ⟨j', k'', ev⟩ := writeJournal_changes stamp (some p.reader) (some p.badge) (admittedOutcome n.direction) .queued
      (some n.flags) u
    rw [← hv] at ev ⊢
    clear hv
    obtain ⟨q, eq⟩ := deliverMessage_changes (commitRoster p stamp s).2.message v
    refine ⟨by rw [eq, ev]; rfl, ?_, ?_, fun k h1 _ => by rw [← hk k h1, eq]; rfl⟩
    · intro m hm
      have hnm : m = n := by rw [hm, hn, e]
      have hd : n.direction = (if p.reader = .entry then .inward else .outward) := by
        rw [hn]; cases h : p.reader <;> simp [commitNotice, readerDirection, h]
      subst hnm
      refine ⟨by rw [hn]; rfl, by rw [hn]; rfl, by rw [hm]; rfl, hd, by rw [hn]; rfl, by rw [hn]; rfl, by rw [hn]; rfl, ?_, by rw [hn]; rfl, by rw [hn]; rfl,
        by rw [hn]; rfl, ?_, ?_⟩
      · rw [hn, ← Option.isSome_iff_exists]; rfl
      · unfold wrote
        rw [eq]
        show v.journal = _
        rw [hj, hd, e]
        cases p.reader <;> rfl
      · rw [eq, ev, e]
        unfold reservationToNotice enqueue unreserve
        dsimp only
        cases s.line.tx <;> rfl
    · intro index hi
      have hov : (deliverMessage (commitRoster p stamp s).2.message v).panel =
          s.panel.openOverlay s.now 6000 (rowText (s.panel.messages.getD (index - 1) spaces)) := by
        rw [hi]
        unfold deliverMessage showMessage
        dsimp only
        rw [if_pos (by rw [ev, e]; exact h), ev, e]
        rfl
      exact overlaid_openOverlay s _ _ _ (by rw [← hov]; rfl)
  · intro hm
    obtain ⟨r', k', e⟩ := commitRoster_changes p stamp s
    unfold commitPunch
    dsimp only
    rw [hm]
    unfold deliverMessage
    dsimp only
    obtain ⟨j', k'', ev⟩ := writeJournal_changes stamp (some p.reader) (some p.badge)
      (admittedOutcome (commitNotice p stamp (commitRoster p stamp s).2 (commitRoster p stamp s).1.journal.next).direction) .queued
      (some (commitNotice p stamp (commitRoster p stamp s).2 (commitRoster p stamp s).1.journal.next).flags)
      (commitRoster p stamp s).1
    rw [ev, e]
    rfl

/-! ### Frames that leave the transmit queue -/

theorem noteSent_eq (p : TxPayload) (s : State) :
    noteSent p s = { s with journal := journalMarked p .sent s.journal, restart := restartAfter p s.restart } := by
  cases p <;> try rfl
  rename_i r
  unfold noteSent restartReplyGone journalMarked restartAfter
  dsimp only
  by_cases h : (r.isRestart && s.restart == .pending) = true
  · rw [if_pos h]
    simp only [Reply.isRestart, Bool.and_eq_true, beq_iff_eq, decide_eq_true_eq] at h
    rw [if_pos (by tauto)]
  · rw [if_neg h]
    simp only [Reply.isRestart, Bool.and_eq_true, beq_iff_eq, decide_eq_true_eq] at h
    rw [if_neg (by tauto)]

theorem noteEmptied_journal (f : TxFrame) (s : State) : (noteEmptied f.payload s).journal =
    { s.journal with entries := s.journal.entries.map (fun e => if f.isFor e then { e with announcement := .lost } else e) } := by
  unfold TxFrame.isFor
  cases f.payload <;> simp [noteEmptied, markJournal]

/-- R150, R162: the entries once a transmit queue's frames were given up one by one are those marked at once. -/
theorem foldl_noteEmptied_journal (l : List TxFrame) (s : State) :
    (l.foldl (fun t f => noteEmptied f.payload t) s).journal = { s.journal with entries := lostWith l s.journal.entries } := by
  induction l generalizing s with
  | nil => simp [lostWith]
  | cons f rest ih =>
    rw [List.foldl_cons, ih, noteEmptied_journal]
    simp only [lostWith, List.map_map, Journal.mk.injEq, and_true]
    apply List.map_congr_left
    intro e _
    have h : ∀ g : TxFrame, g.isFor { e with announcement := .lost } = false := by
      intro g; unfold TxFrame.isFor; cases g.payload <;> simp [JournalEntry.isFor]
    by_cases hf : f.isFor e = true <;> simp [hf, h]

theorem withdrawPending_tx (s : State) : (withdrawPending s).line.tx = s.line.tx := by
  unfold withdrawPending
  split
  · rfl
  · rename_i p _
    obtain ⟨j, k, e⟩ := writeJournal_changes s.clock.stamp (some p.reader) (some p.badge) .withdrawn .none none (unreserve s)
    obtain ⟨j', k', e'⟩ := writeJournal_changes s.clock.stamp (some p.reader) (some p.badge) .withdrawn .none none s
    cases p.kind <;> first | rfl | (dsimp only; rw [e]; rfl) | (dsimp only; rw [e'])

theorem stopBlocks_journal (s : State) : (stopBlocks s).journal =
    { (withdrawPending (stopGate s)).journal with
      entries := lostWith s.line.tx (withdrawPending (stopGate s)).journal.entries } := by
  have hl : (cutLine (emptyWaiting (withdrawPending (stopGate s)))).line.tx = s.line.tx := withdrawPending_tx (stopGate s)
  unfold stopBlocks
  simp only [endRestart, stopPanel, silenceBell, clearChannels, stopLine, emptyTx, foldl_noteEmptied_journal, hl]
  simp only [cutLine, emptyWaiting]

end Sys2Proof.Machine
end

