-- ==== Sys2Proof/Laws/PerInstr.lean ====
section
/-! SUPPORT. Well-formedness, one lemma per command: only the image of a completed read can be ill formed. -/

namespace Sys2Proof.Laws

/-- A command is well formed exactly when an image it carries has 512 bytes (R169). -/
def WellFormedByShape.Statement (i : Instr) : Prop :=
  i.wellFormed = true ↔ ∀ image, i = .configReadComplete image → image.length = 512

/-- A command that is no completed read is well formed. -/
theorem WellFormedByShape.of_other {i : Instr} (hw : i.wellFormed = true) (h : ∀ image, i ≠ .configReadComplete image) :
    WellFormedByShape.Statement i :=
  ⟨fun _ image e => absurd e (h image), fun _ => hw⟩

theorem WellFormedByShape.coldStart : WellFormedByShape.Statement .coldStart :=
  WellFormedByShape.of_other rfl (fun _ => nofun)
theorem WellFormedByShape.resetPinAsserted : WellFormedByShape.Statement .resetPinAsserted :=
  WellFormedByShape.of_other rfl (fun _ => nofun)
theorem WellFormedByShape.warmStart : WellFormedByShape.Statement .warmStart :=
  WellFormedByShape.of_other rfl (fun _ => nofun)
theorem WellFormedByShape.configRetry : WellFormedByShape.Statement .configRetry :=
  WellFormedByShape.of_other rfl (fun _ => nofun)
theorem WellFormedByShape.configReadComplete (image : List Byte) :
    WellFormedByShape.Statement (.configReadComplete image) :=
  ⟨fun h _ e => by cases e; exact of_decide_eq_true h, fun h => decide_eq_true (h image rfl)⟩
theorem WellFormedByShape.backupEntry : WellFormedByShape.Statement .backupEntry :=
  WellFormedByShape.of_other rfl (fun _ => nofun)
theorem WellFormedByShape.backupSupplyLost : WellFormedByShape.Statement .backupSupplyLost :=
  WellFormedByShape.of_other rfl (fun _ => nofun)
theorem WellFormedByShape.powerReturn : WellFormedByShape.Statement .powerReturn :=
  WellFormedByShape.of_other rfl (fun _ => nofun)
theorem WellFormedByShape.advance : WellFormedByShape.Statement .advance :=
  WellFormedByShape.of_other rfl (fun _ => nofun)
theorem WellFormedByShape.elapsedSecondTick : WellFormedByShape.Statement .elapsedSecondTick :=
  WellFormedByShape.of_other rfl (fun _ => nofun)
theorem WellFormedByShape.beaconDue : WellFormedByShape.Statement .beaconDue :=
  WellFormedByShape.of_other rfl (fun _ => nofun)
theorem WellFormedByShape.duplicateHoldExpiry : WellFormedByShape.Statement .duplicateHoldExpiry :=
  WellFormedByShape.of_other rfl (fun _ => nofun)
theorem WellFormedByShape.hearBeacon : WellFormedByShape.Statement .hearBeacon :=
  WellFormedByShape.of_other rfl (fun _ => nofun)
theorem WellFormedByShape.hearPunch : WellFormedByShape.Statement .hearPunch :=
  WellFormedByShape.of_other rfl (fun _ => nofun)
theorem WellFormedByShape.railStuck (reader : Reader) (rail : Rail) : WellFormedByShape.Statement (.railStuck reader rail) :=
  WellFormedByShape.of_other rfl (fun _ => nofun)
theorem WellFormedByShape.readEnd (reader : Reader) : WellFormedByShape.Statement (.readEnd reader) :=
  WellFormedByShape.of_other rfl (fun _ => nofun)
theorem WellFormedByShape.suppressionExpiry (reader : Reader) : WellFormedByShape.Statement (.suppressionExpiry reader) :=
  WellFormedByShape.of_other rfl (fun _ => nofun)
theorem WellFormedByShape.waitTimeout : WellFormedByShape.Statement .waitTimeout :=
  WellFormedByShape.of_other rfl (fun _ => nofun)
theorem WellFormedByShape.decideHead : WellFormedByShape.Statement .decideHead :=
  WellFormedByShape.of_other rfl (fun _ => nofun)
theorem WellFormedByShape.indicationExpiry (reader : Reader) : WellFormedByShape.Statement (.indicationExpiry reader) :=
  WellFormedByShape.of_other rfl (fun _ => nofun)
theorem WellFormedByShape.toneEnd (reader : Reader) : WellFormedByShape.Statement (.toneEnd reader) :=
  WellFormedByShape.of_other rfl (fun _ => nofun)
theorem WellFormedByShape.inputsEstablished : WellFormedByShape.Statement .inputsEstablished :=
  WellFormedByShape.of_other rfl (fun _ => nofun)
theorem WellFormedByShape.doorOpens : WellFormedByShape.Statement .doorOpens :=
  WellFormedByShape.of_other rfl (fun _ => nofun)
theorem WellFormedByShape.doorCloses : WellFormedByShape.Statement .doorCloses :=
  WellFormedByShape.of_other rfl (fun _ => nofun)
theorem WellFormedByShape.exitButtonPress : WellFormedByShape.Statement .exitButtonPress :=
  WellFormedByShape.of_other rfl (fun _ => nofun)
theorem WellFormedByShape.freePassageAsserted : WellFormedByShape.Statement .freePassageAsserted :=
  WellFormedByShape.of_other rfl (fun _ => nofun)
theorem WellFormedByShape.freePassageReleased : WellFormedByShape.Statement .freePassageReleased :=
  WellFormedByShape.of_other rfl (fun _ => nofun)
theorem WellFormedByShape.releaseTimerExpiry : WellFormedByShape.Statement .releaseTimerExpiry :=
  WellFormedByShape.of_other rfl (fun _ => nofun)
theorem WellFormedByShape.holdTimerExpiry : WellFormedByShape.Statement .holdTimerExpiry :=
  WellFormedByShape.of_other rfl (fun _ => nofun)
theorem WellFormedByShape.hearRing : WellFormedByShape.Statement .hearRing :=
  WellFormedByShape.of_other rfl (fun _ => nofun)
theorem WellFormedByShape.strokeEnd : WellFormedByShape.Statement .strokeEnd :=
  WellFormedByShape.of_other rfl (fun _ => nofun)
theorem WellFormedByShape.strokeShortCut : WellFormedByShape.Statement .strokeShortCut :=
  WellFormedByShape.of_other rfl (fun _ => nofun)
theorem WellFormedByShape.gapEnd : WellFormedByShape.Statement .gapEnd :=
  WellFormedByShape.of_other rfl (fun _ => nofun)
theorem WellFormedByShape.pauseEnd : WellFormedByShape.Statement .pauseEnd :=
  WellFormedByShape.of_other rfl (fun _ => nofun)
theorem WellFormedByShape.characterReceived (cells : CharCells) : WellFormedByShape.Statement (.characterReceived cells) :=
  WellFormedByShape.of_other rfl (fun _ => nofun)
theorem WellFormedByShape.sendAttemptStart : WellFormedByShape.Statement .sendAttemptStart :=
  WellFormedByShape.of_other rfl (fun _ => nofun)
theorem WellFormedByShape.enrol : WellFormedByShape.Statement .enrol :=
  WellFormedByShape.of_other rfl (fun _ => nofun)
theorem WellFormedByShape.bar : WellFormedByShape.Statement .bar :=
  WellFormedByShape.of_other rfl (fun _ => nofun)
theorem WellFormedByShape.unbar : WellFormedByShape.Statement .unbar :=
  WellFormedByShape.of_other rfl (fun _ => nofun)
theorem WellFormedByShape.withdraw : WellFormedByShape.Statement .withdraw :=
  WellFormedByShape.of_other rfl (fun _ => nofun)
theorem WellFormedByShape.flag : WellFormedByShape.Statement .flag :=
  WellFormedByShape.of_other rfl (fun _ => nofun)
theorem WellFormedByShape.setMessage : WellFormedByShape.Statement .setMessage :=
  WellFormedByShape.of_other rfl (fun _ => nofun)
theorem WellFormedByShape.setClock : WellFormedByShape.Statement .setClock :=
  WellFormedByShape.of_other rfl (fun _ => nofun)
theorem WellFormedByShape.ringNow : WellFormedByShape.Statement .ringNow :=
  WellFormedByShape.of_other rfl (fun _ => nofun)
theorem WellFormedByShape.weekCollected : WellFormedByShape.Statement .weekCollected :=
  WellFormedByShape.of_other rfl (fun _ => nofun)
theorem WellFormedByShape.remoteRelease : WellFormedByShape.Statement .remoteRelease :=
  WellFormedByShape.of_other rfl (fun _ => nofun)
theorem WellFormedByShape.bellTest : WellFormedByShape.Statement .bellTest :=
  WellFormedByShape.of_other rfl (fun _ => nofun)
theorem WellFormedByShape.readRecord : WellFormedByShape.Statement .readRecord :=
  WellFormedByShape.of_other rfl (fun _ => nofun)
theorem WellFormedByShape.readTotals : WellFormedByShape.Statement .readTotals :=
  WellFormedByShape.of_other rfl (fun _ => nofun)
theorem WellFormedByShape.readJournal : WellFormedByShape.Statement .readJournal :=
  WellFormedByShape.of_other rfl (fun _ => nofun)
theorem WellFormedByShape.readStatus : WellFormedByShape.Statement .readStatus :=
  WellFormedByShape.of_other rfl (fun _ => nofun)
theorem WellFormedByShape.restart : WellFormedByShape.Statement .restart :=
  WellFormedByShape.of_other rfl (fun _ => nofun)
theorem WellFormedByShape.requestInvalid : WellFormedByShape.Statement .requestInvalid :=
  WellFormedByShape.of_other rfl (fun _ => nofun)
theorem WellFormedByShape.panelOverlayExpiry : WellFormedByShape.Statement .panelOverlayExpiry :=
  WellFormedByShape.of_other rfl (fun _ => nofun)
theorem WellFormedByShape.panelTransferComplete : WellFormedByShape.Statement .panelTransferComplete :=
  WellFormedByShape.of_other rfl (fun _ => nofun)
theorem WellFormedByShape.qualifiedPulse (reader : Reader) (rail : Rail) (overlaps : Bool) : WellFormedByShape.Statement (.qualifiedPulse reader rail overlaps) :=
  WellFormedByShape.of_other rfl (fun _ => nofun)
theorem WellFormedByShape.millisecondTick (pins : Pins) : WellFormedByShape.Statement (.millisecondTick pins) :=
  WellFormedByShape.of_other rfl (fun _ => nofun)
theorem WellFormedByShape.startBitConfirmed (cell : BitCell) : WellFormedByShape.Statement (.startBitConfirmed cell) :=
  WellFormedByShape.of_other rfl (fun _ => nofun)
theorem WellFormedByShape.characterTimeEnd : WellFormedByShape.Statement .characterTimeEnd :=
  WellFormedByShape.of_other rfl (fun _ => nofun)
theorem WellFormedByShape.mainSupplyRise : WellFormedByShape.Statement .mainSupplyRise :=
  WellFormedByShape.of_other rfl (fun _ => nofun)
theorem WellFormedByShape.mainSupplyDip : WellFormedByShape.Statement .mainSupplyDip :=
  WellFormedByShape.of_other rfl (fun _ => nofun)
theorem WellFormedByShape.tryNotAcknowledged : WellFormedByShape.Statement .tryNotAcknowledged :=
  WellFormedByShape.of_other rfl (fun _ => nofun)

end Sys2Proof.Laws
end

