-- ==== Sys2Proof/Laws/Requests.lean ====
section
/-! SUPPORT. A request that stands ready is served: its owner applies it to the state without its frame, and the answer is sent. -/

namespace Sys2Proof.Machine

/-- All that serve does with an office station's request of its kind at the head of the receive buffer. -/
theorem serve_head (k : RequestKind) (s : State) (office dest : Nat) (tag : Byte) (params : List Byte) (rest : List RxFrame)
    (hrun : running s = true) (h1 : 56 ≤ office) (h2 : office ≤ 63)
    (hrx : s.line.rx = requestFrame office dest k.code tag params :: rest) :
    serve k s =
      if s.restart = .none then k.handle ⟨office, dest, k.code, tag, params⟩ (taken s rest) else taken s rest := by
  have hreq : isRequest (requestFrame office dest k.code tag params) k.code = true := by
    simp [isRequest, requestFrame, officeSource, h1, h2, getByte]
  have hof : requestOf (requestFrame office dest k.code tag params) = ⟨office, dest, k.code, tag, params⟩ := by
    simp [requestOf, requestFrame, getByte]
  unfold serve
  rw [hrx]
  dsimp only
  rw [hrun, hreq]
  simp only [Bool.and_self, if_true]
  rw [hof]
  rfl

theorem serve_ready (k : RequestKind) (s : State) (office dest : Nat) (code tag : Byte) (params : List Byte) (rest : List RxFrame)
    (h : requestReady s office dest code tag params rest) (hc : k.code = code) (hl : params.length = k.length)
    (hr : k.inRange params = true) (hb : dest ≠ 0 ∨ k.broadcast = true) :
    serve k s = sendAnswer ⟨office, dest, code, tag, params⟩ (k.apply ⟨office, dest, code, tag, params⟩ (taken s rest)) := by
  obtain ⟨h1, h2, h3, h4, h5⟩ := h
  subst hc
  rw [serve_head k s office dest tag params rest h1 h3 h4 h5, if_pos h2]
  unfold RequestKind.handle Request.addressed
  dsimp only
  rw [if_neg, if_neg]
  · simp [hl, hr]
  · rcases hb with hb | hb <;> simp [hb]

theorem sendAnswer_answered (office dest : Nat) (code tag : Byte) (params : List Byte) (t : State) (st : ReplyStatus)
    (data : List Byte) :
    sendAnswer ⟨office, dest, code, tag, params⟩ (t, some (st, data)) = answered office dest code tag st data t := by
  unfold sendAnswer answered Request.addressed Request.reply
  dsimp only
  by_cases h : dest = 0 <;> simp [h]

end Sys2Proof.Machine
end

