-- ==== Sys2Proof/Tests/Slice0.lean ====
section
/-! SUPPORT. Tests. The expected values are those of the spec's worked examples and tables, named at each; then, for every statement
with hypotheses, a state and operands that meet them, clause by clause (witness_ and the statement's name). -/

namespace Sys2Proof.Tests

set_option Elab.async false

open Sys2Proof Sys2Proof.Machine

/-! ### A configured station -/

/-- The state a command leaves; the state itself where it stops. -/
def after (c : Instr) (s : State) : State :=
  match exec c s with
  | .next t => t
  | .fault _ => s
  | .refused _ => s

/-- Shift 1 of worked case 1: 06:00, length 480, Tuesday in its day mask. -/
def dayShift : ShiftEntry :=
  { days := 0x02#8, start := 360, length := 480, earlyIn := 10, lateGrace := 5, earlyLeave := 5, lateOut := 10, unit := 15,
    breakLength := 30, threshold := 360, limit := 450, limit2 := 570 }

/-- Shift 2 of worked case 2: 14:00, length 480, unit 6; Wednesday. -/
def lateShift : ShiftEntry := { dayShift with days := 0x04#8, start := 840, unit := 6 }

/-- Entry 5 of "one zone at a shift change": Monday to Friday, 14:00, zones 2 and 3, TRIPLE, rush 15. -/
def entry5 : BellEntry := { days := 0x1F#8, minute := 840, zones := 0x06#8, pattern := .triple, rush := 15 }

/-- Station 7, zone 2, site 44, as the worked examples have it. -/
def cfg : Settings :=
  { Settings.blank with
    station := 7, zone := 2, siteCode := 44, confirm := true, q := 10, releaseTime := 6, rushTime := 4, holdLimit := 20
    expectedPeers := 2, nightStart := 1320, nightEnd := 360, rates := [0, 0, 1850, 2100, 0, 0, 0, 0]
    shifts := [dayShift, lateShift] ++ List.replicate 10 ShiftEntry.blank
    bells := (List.replicate 32 BellEntry.blank).set 5 entry5
    openLimit := 300, shortLimit := 800, idleText := rowText (textBytes "GATE 7 NORTH") }

/-- An input with an accepted level. -/
def level (b : Bool) : Input := { accepted := some b, sample := none, count := 0, latched := [] }

/-- An input with a latched event. -/
def event (b : Bool) : Input := { level b with latched := [{ level := b, early := false }] }

/-- The station in IDLE, its clock at week 1203 Tue 06:02:15, its elapsed base at 100 seconds. -/
def on : State :=
  { State.reset with
    starts := { State.reset.starts with run := .configured, outcome := .accepted }
    timebase := { State.reset.timebase with elapsed := 100000 }
    clock := { week := 1203, minute := 1802, second := 15, subMs := 0, isSet := true }
    gate := { Gate.initial with cycle := .idle, door := level false, button := level false, freePassage := level false,
                                sampleFrom := some 0 }
    settings := cfg
    panel := { Panel.initial with row1 := cfg.idleText, row2 := clockRow true 1802, base := cfg.idleText } }

/-- The station in a state of the release cycle. -/
def inCycle (c : Cycle) : State := { on with gate := { on.gate with cycle := c } }

/-- The station with a door event latched, in a state of the release cycle. -/
def atDoor (c : Cycle) (open_ : Bool) : State := { on with gate := { on.gate with cycle := c, door := event open_ } }

/-- The station with a press of the exit button latched, in a state of the release cycle. -/
def atButton (c : Cycle) : State := { on with gate := { on.gate with cycle := c, button := event true } }

/-- The station UNCONFIGURED. -/
def unconfigured : State := { on with starts := { on.starts with run := .unconfigured } }

/-- The station with a configuration read in progress. -/
def reading : State := { on with starts := { on.starts with run := .reading } }

/-- The station in BACKUP, the main supply up since an elapsed moment. -/
def inBackup (up : Option Nat) : State := { on with starts := { on.starts with supply := .backup, mainUpSince := up } }

/-- A frame at the head of the receive buffer. -/
def hears (f : RxFrame) (s : State) : State := { s with line := { s.line with rx := [f] } }

/-- A request of office station 60 at the head of the receive buffer. -/
def asks (dest : Nat) (code : Byte) (params : List Byte) (s : State) : State := hears (requestFrame 60 dest code 0x28#8 params) s

/-- The record of badge 40,117 of "one record at station 7", as its Enrol inserts it. -/
def worker : Record := newRecord 40117 1 2 1203

/-- The station with a roster. -/
def withRoster (l : List Record) (s : State) : State := { s with roster := l }

/-- Week 1203 Tue 05:41:20. -/
def inStamp : Stamp := { week := 1203, minute := 1781, second := 20 }

/-- Week 1203 Tue 15:07:40. -/
def outStamp : Stamp := { week := 1203, minute := 2347, second := 40 }

/-- The interval that an IN at station 3 at Tue 05:41:20 opens. -/
def openIv : OpenInterval :=
  { key := { stamp := inStamp, station := 3 }, code := 1, kind := .scheduled, start := some 12128040 }

/-- The worker's record with that interval open. -/
def workerIn : Record :=
  { worker with presence := .isIn, interval := some openIv, lastPunch := some { key := openIv.key, direction := .inward },
                acc := some (Accumulator.fresh 12128040 1) }

/-- The result of worked case 1, as its table gives it. -/
def caseOne : PayResult :=
  { key := openIv.key, start := some 12128040, effIn := 12128025, effOut := 12128580, regular := 450, ot1 := 75, ot2 := 0,
    night := 15, breakMinutes := 30, credits := 2265, pay := 17459,
    flags := { ResultFlags.clear with breakDeducted := true } }

/-- A notice of an IN at Tue 05:41:20. -/
def inNotice : PunchNotice :=
  { sequence := 4210, badge := 40117, direction := .inward, flags := PunchFlags.clear, stamp := inStamp,
    occurrence := some { code := 1, kind := .scheduled, start := some 12128040 }, superseded := none, result := none }

/-- A notice of the OUT at Tue 15:07:40 with its result. -/
def outNotice : PunchNotice :=
  { sequence := 4211, badge := 40117, direction := .outward, flags := PunchFlags.clear, stamp := outStamp, occurrence := none,
    superseded := none, result := some caseOne }

/-- A PUNCH frame from a source. -/
def punchFrame (source : Nat) (n : PunchNotice) : RxFrame := { kind := .punch, source := source, destination := 0, body := n.bytes }

/-- A beacon of a gate station of zone 2. -/
def beaconFrame (source : Nat) (isSet : Bool) (stamp : Stamp) : RxFrame :=
  { kind := .beacon, source := source, destination := 0,
    body := ({ roleCode := 1, zone := 2, flags := { clockSet := isSet, isolated := false, bellFault := false, duplicate := false },
               stamp := stamp, records := 0 } : BeaconBody).bytes }

/-- A waiting read of the worker. -/
def waits (r : Reader) : WaitEntry := { reader := r, badge := 40117, readAt := 100000, held := false }

/-- The pending punch of the worker at a reader. -/
def pends (r : Reader) (presence : Presence) : PendingPunch := pendingOf (waits r) outStamp false false presence

/-- The station with a pending punch, in a state of the release cycle, with a door opening latched. -/
def released (p : PendingPunch) : State :=
  { atDoor .released true with pendingPunch := some p, line := { on.line with reserved := 1 } }

/-- The samples of a bit. -/
def cell (b : Bool) : BitCell := { s7 := b, s8 := b, s9 := b }

/-- The samples of a character with a stop bit. -/
def cellsOf (data : Byte) (mark stop : Bool) : CharCells :=
  { d0 := cell (data.getLsbD 0), d1 := cell (data.getLsbD 1), d2 := cell (data.getLsbD 2), d3 := cell (data.getLsbD 3),
    d4 := cell (data.getLsbD 4), d5 := cell (data.getLsbD 5), d6 := cell (data.getLsbD 6), d7 := cell (data.getLsbD 7),
    mark := cell mark, stop := cell stop }

/-- The 40 bits of a badge code. -/
def codeBits (bytes : List Byte) : List Bool :=
  (bytes.map (fun b => [7, 6, 5, 4, 3, 2, 1, 0].map (fun i => b.getLsbD i))).flatten

/-- A read that has ended, of a badge code. -/
def readOf (bytes : List Byte) : ReadInProgress :=
  { bits := codeBits bytes, count := 40, spoiled := false, lastEnd := 99975, zeroStuck := false, oneStuck := false }

/-- The badge code of "a badge code": site 44, badge 40,117. -/
def goodCode : List Byte := [0x2C#8, 0x00#8, 0x9C#8, 0xB5#8, 0xFA#8]

/-- The station with a read in progress at ENTRY. -/
def hasRead (x : ReadInProgress) : State := { on with entryChannel := { Channel.empty with read := some x } }

/-- The station with a bell. -/
def withBell (b : Bell) : State := { on with bell := b }

/-! ### WellFormed -/

/-- R169: an image of another number of bytes is no well-formed operand, and the command faults. -/
theorem test_image_of_no_bytes_is_refused : (Instr.configReadComplete []).wellFormed = false := by decide

theorem test_image_of_511_bytes_faults :
    (match exec (.configReadComplete (List.replicate 511 0)) reading with | .fault .imageLength => true | _ => false) = true := by
  decide +kernel

theorem test_no_word_spells_a_command : decodeTableWord 16 0x0001 = none ∧ on.withFetchWord 16 0x0001 = on := by decide +kernel

/-! ### Worked examples -/

/-- "A difference across the week-number wrap": 3 seconds. -/
theorem test_clock_difference_across_the_wrap :
    clockDiff { week := 0, minute := 0, second := 1 } { week := 65535, minute := 10079, second := 58 } = 3 := by decide

/-- "Three stations agree", t = 0 at station 12: the difference and the clamped offset. -/
theorem test_station_12_adopts :
    clockDiff { week := 1203, minute := 1799, second := 50 } { week := 0, minute := 0, second := 10 } = 727682380 ∧
      clampOffset 727682380 = 127 := by decide

/-- "Three stations agree", t = 0 at station 7: d is −2, the clock stays and entry 3 is LAGGING. -/
theorem test_hear_beacon_lagging :
    (after .hearBeacon (hears (beaconFrame 3 true { week := 1203, minute := 1802, second := 13 }) on)).peers.entries.map
        (fun p => (p.station, p.offset, p.lagging)) = [(3, -2, true)] := by decide +kernel

/-- "A badge code": the check byte 0xFA is right. -/
theorem test_badge_code :
    codeCheckOk (codeBits goodCode) = true ∧ codeSite (codeBits goodCode) = 44 ∧ codeBadge (codeBits goodCode) = 40117 := by
  decide +kernel

/-- Worked case 1: the result of the close. -/
theorem test_worked_case_1 :
    (closeInterval cfg openIv (some (Accumulator.fresh 12128040 1)) outStamp 1850).1 = caseOne := by decide +kernel

/-- Worked case 1: the occurrence of the IN punch. -/
theorem test_worked_case_1_occurrence :
    chooseOccurrence cfg 1 inStamp = { code := 1, kind := .scheduled, start := some 12128040 } := by decide +kernel

/-- Worked case 2, interval 2: in at Wed 18:40:00, out at 23:31:00, after interval 1 with gross 240, last out 18:02:30. -/
theorem test_worked_case_2 :
    (closeInterval cfg
        { key := { stamp := { week := 1203, minute := 4000, second := 0 }, station := 7 }, code := 2, kind := .scheduled,
          start := some 12129960 }
        (some (resumed lateShift
          { Accumulator.fresh 12129960 2 with gross := 240, regular := 240,
                                              lastOut := some { week := 1203, minute := 3962, second := 30 } }
          { week := 1203, minute := 4000, second := 0 }))
        { week := 1203, minute := 4291, second := 0 } 2100).1.pay = 12233 := by decide +kernel

/-- "One record at station 7", event 2: the IN is current and opens the interval. -/
theorem test_hear_punch_in :
    (after .hearPunch (hears (punchFrame 3 inNotice) (withRoster [worker] on))).roster = [workerIn] := by decide +kernel

/-- "One record at station 7", event 5: the LEAVING record goes out and is removed. -/
theorem test_hear_punch_out_removes :
    (after .hearPunch (hears (punchFrame 12 outNotice)
        (withRoster [{ workerIn with status := .leaving }] on))).roster = [] := by decide +kernel

/-- "One gate through an afternoon", event 4: the exit button. -/
theorem test_exit_button :
    (after .exitButtonPress { on with gate := { on.gate with button := event true } }).gate.releaseTimer =
      some { start := 100000, duration := 6000 } := by decide +kernel

/-- "One gate through an afternoon", event 6: FORCED. -/
theorem test_door_forced : ((after .doorOpens (atDoor .idle true)).journal.entries.map JournalEntry.outcome) = [.forced] := by
  decide +kernel

/-- "The panel through one passage", t = 0: the text of the admission. -/
theorem test_admission_text :
    (after .decideHead { withRoster [worker] on with waiting := [waits .entry] }).panel.row1 = rowText (textBytes "IN 06:02 OK") := by
  decide +kernel

/-- R142: the check register after the ASCII digits 1 to 9. -/
theorem test_check_of_the_digits :
    crc [0x31#8, 0x32#8, 0x33#8, 0x34#8, 0x35#8, 0x36#8, 0x37#8, 0x38#8, 0x39#8] = 0x29B1#16 := by decide +kernel

/-- "A collision at the head": the body of 18 bytes gives a frame of 24 characters. -/
theorem test_frame_of_24_characters : (TxPayload.frame (.punch inNotice) on).length = 24 := by decide +kernel

/-- "A bell fault and its test", step 5: 950 samples with the sum 375,250 have the mean 395. -/
theorem test_stroke_mean :
    strokeMean (withBell { Bell.initial with sum := 375250, number := 950 }) = 395 := by decide +kernel

/-- The journal of "reading across the wrap": 512 entries from 65,400, those up to sequence 3 in week 1203. -/
def wrapped : Journal :=
  { entries := (List.range 512).map (fun k =>
      { sequence := (65400 + k) % 65536, stamp := { week := if k < 140 then 1203 else 1204, minute := 0, second := 0 },
        clockSet := true, reader := none, badge := none, outcome := .exitButton, announcement := .none, flags := none })
    next := 376 }

/-- "Reading across the wrap": n of 6, 4, 6 and 0, and NO RECORD. -/
theorem test_read_across_the_wrap :
    [65530, 0, 4, 376, 65000, 377].map (fun q => ((journalReply wrapped q).1, ((journalReply wrapped q).2.take 3).drop 2)) =
      [(.done, [6#8]), (.done, [4#8]), (.done, [6#8]), (.done, [0#8]), (.noRecord, [0x01#8]), (.noRecord, [0x01#8])] := by
  decide +kernel

/-- "A flickering supply": at 450 ms the count of 250 is reached. -/
theorem test_power_return :
    (after .powerReturn (inBackup (some 99750))).starts.cause = .powerReturn ∧
      (after .powerReturn (inBackup (some 99751))).starts.supply = .backup := by decide +kernel

/-- R45: a rail asserted for 25 ms keeps the read from ending until its pulse ends, and 25 ms beyond. -/
theorem test_stuck_rail_holds_the_read :
    let stuck := after (.railStuck .entry .zero) (hasRead (readOf goodCode))
    let freed := after (.qualifiedPulse .entry .zero false) stuck
    after (.readEnd .entry) stuck = stuck ∧ after (.readEnd .entry) freed = freed ∧
      (freed.channel .entry).read.map ReadInProgress.spoiled = some true := by decide +kernel

/-- R5, R6, R25: at 330,301,440 minutes apart the stamp that stood counts as earlier than the new one. -/
theorem test_last_out_at_half_the_range :
    latestStamp (some { week := 0, minute := 0, second := 0 }) { week := 32768, minute := 0, second := 0 } =
      some { week := 32768, minute := 0, second := 0 } := by decide +kernel

/-! ### What the statements assume holds somewhere: the queue of commands, starts and supplies -/

/-- An empty queue; and a queue with a command at its front. -/
theorem witness_StepTakesTheFrontCommand :
    on.pending = [] ∧ step { on with pending := [.decideHead] } = exec .decideHead on := ⟨rfl, rfl⟩

theorem witness_WellFormedCommandsComplete :
    Instr.coldStart.wellFormed = true ∧ (Instr.configReadComplete (List.replicate 512 0)).wellFormed = true := by decide +kernel

theorem witness_ExecKeepsTheQueue :
    exec .advance { on with pending := [.decideHead] } = .next { on with pending := [.decideHead] } := rfl

/-- The station without retained state, the main supply up since an elapsed moment. -/
def lostSince (up : Option Nat) : State :=
  { State.reset with starts := { State.reset.starts with supply := .lost, mainUpSince := up }
                     timebase := { State.reset.timebase with elapsed := 250 } }

/-- No state with the main supply down, up for 249 ms and for 250 ms; MAIN; BACKUP. -/
theorem witness_ColdStartFollowsTheLossOfAllState :
    (∀ up ∈ [none, some 1, some 0], (lostSince up).starts.supply = .lost ∧ (lostSince up).starts.mainUpSince = up) ∧
      elapsedSince (lostSince (some 1)).now 1 < 250 ∧ 250 ≤ elapsedSince (lostSince (some 0)).now 0 ∧
      on.starts.supply = .main ∧ (inBackup none).starts.supply = .backup ∧ (inBackup (some 99751)).starts.supply = .backup := by
  decide +kernel

theorem witness_ResetPinStopsTheStation : on.starts.supply = .main ∧ on.starts.pinHeld = false := by decide +kernel

/-- The pin held, a Restart's reply gone, and the pin held with a punch pending, 511 and 512 entries in the journal. -/
theorem witness_WarmStartEmptiesAndKeeps :
    (∀ s ∈ [after .resetPinAsserted on, { on with restart := .replyLeft }],
      s.starts.supply = .main ∧ (s.starts.pinHeld = true ∨ s.restart = .replyLeft) ∧ s.pendingPunch = none) ∧
      (∀ l ∈ [wrapped.entries.tail, wrapped.entries],
        let s := after .resetPinAsserted { released (pends .exit .isIn) with journal := { wrapped with entries := l } }
        s.starts.supply = .main ∧ s.starts.pinHeld = true ∧ s.pendingPunch = some (pends .exit .isIn) ∧
          s.journal.entries.length = l.length) ∧
      wrapped.entries.tail.length < 512 ∧ 512 ≤ wrapped.entries.length ∧ Counter.repeatIgnored ≠ .journalOverwritten := by
  decide +kernel

/-- Nothing pending; a punch pending with a full journal. -/
theorem witness_BackupEntryActsOnEachOwner :
    on.starts.supply = .main ∧ on.pendingPunch = none ∧
      (let s := { released (pends .exit .isIn) with journal := wrapped }
       s.starts.supply = .main ∧ s.pendingPunch = some (pends .exit .isIn) ∧ 512 ≤ s.journal.entries.length) := by decide +kernel

/-- The station in BACKUP, the main supply up for 250 ms, in a run. -/
def returning (r : Run) : State := { inBackup (some 99750) with starts := { (inBackup (some 99750)).starts with run := r } }

/-- BACKUP with the main supply down; up for 249 ms; up for 250 ms, in each run. -/
theorem witness_PowerReturnsWhenQualified :
    ((inBackup none).starts.supply = .backup ∧ (inBackup none).starts.mainUpSince = none) ∧
      ((inBackup (some 99751)).starts.supply = .backup ∧ (inBackup (some 99751)).starts.mainUpSince = some 99751 ∧
        elapsedSince (inBackup (some 99751)).now 99751 < 250) ∧
      ∀ r ∈ [Run.reading, .configured, .unconfigured],
        (returning r).starts.supply = .backup ∧ (returning r).starts.mainUpSince = some 99750 ∧
          250 ≤ elapsedSince (returning r).now 99750 ∧ (returning r).starts.run = r ∧ (returning r).line.tx = [] ∧
          (returning r).pendingPunch = none := by decide +kernel

/-- The reading station after n failed tries. -/
def tried (n : Nat) (wait : Option Nat) : State :=
  { reading with starts := { reading.starts with failedTries := n, waitSince := wait } }

/-- No read; two failed tries, a wait of 10 ms, three failed tries. -/
theorem witness_ConfigurationTries :
    readRuns on = false ∧ (tried 1 (some 99990)).starts.waitSince.isSome = true ∧ (tried 3 none).announcements = [] ∧
      readRuns (tried 2 none) = true ∧ (tried 2 none).starts.waitSince = none ∧ (tried 2 none).starts.failedTries < 3 ∧
      readRuns (tried 1 (some 99990)) = true ∧ (tried 1 (some 99990)).starts.waitSince = some 99990 ∧
      10 ≤ elapsedSince (tried 1 (some 99990)).now 99990 ∧ readRuns (tried 3 none) = true ∧
      (tried 3 none).starts.waitSince = none ∧ 3 ≤ (tried 3 none).starts.failedTries := by decide +kernel

/-- An image of 510 bytes with its sum. -/
def summed (l : List Byte) : List Byte := l ++ put2 (imageSum l)

/-- An image whose every field lies in its range, with a station number: shift entries of length 1 and unit 1, no bell entry. -/
def imageOf (station : Nat) : List Byte :=
  summed ([0x31#8] ++ put1 station ++ [2#8, 44#8, 0#8, 0#8, 0#8, 0#8, 1#8, 0#8, 2#8, 1#8, 30#8, 5#8, 54#8] ++ putSigned2 (-2047) ++
    put2 1439 ++ put2 0 ++ List.replicate 16 0#8 ++
    (List.replicate 12 ([0x7F#8] ++ put2 1439 ++ put2 1440 ++ [60#8, 15#8, 15#8, 60#8, 30#8, 120#8] ++ put2 1440 ++ put2 960 ++
      put2 960)).flatten ++ List.replicate 192 0#8 ++ put2 0 ++ put2 1023 ++ List.replicate 16 0x20#8 ++ List.replicate 57 0#8)

/-- Offset 1 of an image holds the field of its station number alone. -/
theorem imageFieldBad_station (img : List Byte) (h : get img 1 1 = 0 ∨ get img 1 1 = 56) : imageFieldBad img 1 :=
  .inl ⟨1, 1, 55, by decide +kernel, by rcases h with h | h <;> rw [h] <;> decide⟩

/-- Offset 0 holds the format's field alone. -/
theorem imageFieldBad_format (img : List Byte) (h : get img 0 1 = 0x31) : ¬imageFieldBad img 0 := by
  rintro (⟨size, low, high, hm, hr⟩ | ⟨h', _⟩ | ⟨k, _, h', _⟩ | ⟨k, _, h', _⟩ | ⟨k, _, h', _⟩ | ⟨h', _⟩) <;> try omega
  have : ∀ r ∈ imageRows, r.1 = 0 → r.2 = (1, 0x31, 0x31) := by decide +kernel
  obtain ⟨rfl, rfl, rfl⟩ : size = 1 ∧ low = 0x31 ∧ high = 0x31 := by simpa using this _ hm rfl
  omega

/-- The first bad field of the images with the station numbers 0 and 56 stands at index 1. -/
theorem witness_CompletedReadIsChecked_fields :
    ∀ n ∈ [0, 56], imageFieldBad (imageOf n) 1 ∧ ∀ j, j < 1 → ¬imageFieldBad (imageOf n) j := by
  have h : ∀ n ∈ [0, 56], get (imageOf n) 0 1 = 0x31 ∧ (get (imageOf n) 1 1 = 0 ∨ get (imageOf n) 1 1 = 56) := by decide +kernel
  intro n hn
  refine ⟨imageFieldBad_station _ (h n hn).2, fun j hj => ?_⟩
  obtain rfl : j = 0 := by omega
  exact imageFieldBad_format _ (h n hn).1

/-- The station numbers 1 and 55 pass; 0 and 56 fail at index 1, the first bad field; an image of zeros fails its sum at byte 511. -/
theorem witness_CompletedReadIsChecked :
    readRuns reading = true ∧ reading.starts.waitSince = none ∧ (imageOf 1).length = 512 ∧ (imageOf 56).length = 512 ∧
      imageSum (imageOf 1) = get (imageOf 1) 510 2 ∧ (∀ c ∈ fieldChecks (imageOf 1), c.2 = true) ∧
      (∀ c ∈ fieldChecks (imageOf 55), c.2 = true) ∧ imageSum (imageOf 0) = get (imageOf 0) 510 2 ∧
      fieldChecks (imageOf 0) = [(0, true)] ++ (1, false) :: (fieldChecks (imageOf 0)).drop 2 ∧
      fieldChecks (imageOf 56) = [(0, true)] ++ (1, false) :: (fieldChecks (imageOf 56)).drop 2 ∧
      imageSum (List.replicate 511 0#8 ++ [1#8]) ≠ get (List.replicate 511 0#8 ++ [1#8]) 510 2 := by decide +kernel

/-- R169: a try takes 512 bytes from the memory, and acknowledges all but the last. -/
theorem test_try_takes_512_bytes :
    ((loaderBus none (tried 0 none)).filter (fun b => decide (b = .read true))).length = 511 ∧
      ((loaderBus none (tried 0 none)).filter (fun b => decide (b = .read false))).length = 1 := by decide +kernel

/-! ### The timebase, the clock and the peers -/

/-- The station with a clock. -/
def clocked (week minute second subMs : Nat) (isSet : Bool) : State :=
  { on with clock := { week := week, minute := minute, second := second, subMs := subMs, isSet := isSet } }

/-- The station with its elapsed base at a moment, its inputs sampled from 0 on and a stroke of 1 second from 0 on. -/
def strokeAt (elapsed aboveRun : Nat) : State :=
  { on with timebase := { on.timebase with elapsed := elapsed }
            bell := { Bell.initial with sounder := .striking, timer := some { start := 0, duration := 1000 }, aboveRun := aboveRun } }

/-- The last millisecond of week 65,535, with CLOCK SET false; the milliseconds 998 and 999 of a second; an odd and an even sample
moment; a station UNCONFIGURED, one in BACKUP; a stroke at 49, 50, 999 and 1,000 ms, and one of 3 samples above the limit. -/
theorem witness_MillisecondTickCounts :
    powered (clocked 65535 10079 59 999 false) = true ∧ (clocked 65535 10079 59 999 false).clock.inRange ∧
      ((clocked 65535 10079 59 999 false).clock.millis + 1) % 39636172800000 % 60000 = 0 ∧
      ({ on.timebase with msInSecond := 998 } : Timebase).msInSecond < 999 ∧
      999 ≤ ({ on.timebase with msInSecond := 999 } : Timebase).msInSecond ∧ on.clock.inRange ∧
      (∀ s ∈ [on, unconfigured, inBackup none, strokeAt 48 0, strokeAt 49 0, strokeAt 998 2, strokeAt 999 2],
        powered s = true ∧ s.gate.sampleFrom = some 0) ∧
      (∀ q ∈ [(48, 1), (49, 0)],
        elapsedSince (after (.millisecondTick ⟨false, false, false, 0⟩) (strokeAt q.1 0)).now 0 % 2 = q.2) ∧
      running on = true ∧ on.settings.confirm = true ∧ ({ cfg with confirm := false } : Settings).confirm = false ∧
      unconfiguredMain unconfigured = true ∧ running (inBackup none) = false ∧ unconfiguredMain (inBackup none) = false ∧
      (∀ q ∈ [(48, 49), (49, 50), (998, 999), (999, 1000)], running (strokeAt q.1 2) = true ∧
        (strokeAt q.1 2).bell.sounder = .striking ∧ (strokeAt q.1 2).bell.aboveRun < 3 ∧
        elapsedSince (after (.millisecondTick ⟨false, false, false, 0⟩) (strokeAt q.1 2)).now 0 = q.2) ∧
      3 ≤ (strokeAt 49 3).bell.aboveRun ∧ State.reset.gate.sampleFrom = none := by
  unfold Clock.inRange; decide +kernel

/-- Q of 2 and of 64, with no sample, one, and one less than Q; no accepted level and no sample, or one of the other level. -/
theorem witness_InputsAreQualified :
    ((level false).accepted = some false ∧ (level false).count = 0 ∧ 1 ≤ 64 ∧ 0 < 64 ∧ 63 < 64 ∧ 1 ≤ 2 ∧ 1 < 2) ∧
      ∀ i ∈ [Input.unknown, Input.unknown.sampled 2 false true false], i.accepted = none ∧ i.sample ≠ some true := by decide

/-- Wednesday at a second of the minute of day. -/
def wednesday (minute second : Nat) : State := clocked 1203 (2880 + minute) second 0 true

/-- An entry falls due at an announcement, its mark clear or cleared by the day change. -/
def newlyAt (s : State) (a : Advance) (i : Nat) : Bool :=
  dueAt s { week := a.week, minute := a.minute, second := 0 } i && (a.dayChanged || !marked s i)

/-- A week change, in main power and in BACKUP. -/
theorem witness_AdvanceIsHandedOn :
    on.announcements = [] ∧
    let a : Advance := { week := 1204, minute := 0, dayChanged := true, weekChanged := true }
    ∀ s ∈ [{ on with announcements := [a] }, { inBackup none with announcements := [a] }],
      powered s = true ∧ announcementsHeld s = false ∧ s.announcements = a :: [] ∧
        (panelRuns s = true ∨ panelRuns s = false) ∧ ∀ i, i < 32 → newlyAt s a i = false := by decide +kernel

/-- The announcement of the minute of entry 5, and the station it waits at. -/
def atFive (changed : Bool) : Advance := { week := 1203, minute := 3720, dayChanged := changed, weekChanged := false }
def announced (changed : Bool) : State := { wednesday 840 0 with announcements := [atFive changed] }
def announcedInBackup (changed : Bool) : State := { announced changed with starts := (inBackup none).starts }

/-- The minute of entry 5, its mark clear, cleared by the day change and set, at a configured station, one in BACKUP and one with its
reset pin held. -/
theorem witness_AdvanceIsHandedOn_due :
    ∀ c ∈ [true, false],
      (∀ s ∈ [announced c, announcedInBackup c, after .resetPinAsserted (announced c)],
        powered s = true ∧ announcementsHeld s = false ∧ s.announcements = atFive c :: [] ∧
          newlyAt s (atFive c) 5 = true ∧ ∀ j, j < 32 → j ≠ 5 → newlyAt s (atFive c) j = false) ∧
        running (announced c) = true ∧ running (announcedInBackup c) = false ∧
        running (after .resetPinAsserted (announced c)) = false ∧ newlyAt (setMark 5 (announced c)) (atFive c) 5 = c := by
  decide +kernel

/-- The entries a Set Clock to a value passes, as the statement takes them, with the seconds each lies back. -/
def passedBy (s : State) (new : Stamp) (i : Nat) : Bool × Int :=
  let sameDay := decide (new.week = s.clock.week ∧ new.minute / 1440 = s.clock.minute / 1440)
  let at_ := absMinute new.week (new.minute / 1440 * 1440 + (s.settings.bell i).minute)
  ((s.settings.bell i).applies (dayOfWeek new.minute) s.settings.zone && (!sameDay || !marked s i) &&
      (if s.clock.isSet && decide (0 ≤ clockDiff new s.clock.stamp) then
        decide (0 < absDiff at_ s.clock.abs) && decide (absDiff at_ s.clock.abs ≤ absDiff (absMinute new.week new.minute) s.clock.abs)
      else decide ((s.settings.bell i).minute = minuteOfDay new.minute)),
    clockDiff new { week := new.week, minute := new.minute / 1440 * 1440 + (s.settings.bell i).minute, second := 0 })

/-- Entry 5 again at the indexes 3 and 9, at 13:59 and at 14:00, with a pattern of its own each. -/
def withThree (s : State) : State :=
  { s with settings := { s.settings with
      bells := (s.settings.bells.set 3 { entry5 with minute := 839, pattern := .long }).set 9 { entry5 with pattern := .double } } }

/-- The indexes at which a station queued RING notices, in the order of its transmit queue. -/
def ringIndexes (s : State) : List Nat :=
  s.line.tx.filterMap (fun f => match f.payload with | .ring r => some r.index | _ => none)

/-- Two entries of one announcement. -/
theorem witness_AdvanceIsHandedOn_order :
    ∀ c ∈ [true, false], let s := { withThree (announced c) with announcements := [atFive c] }
      powered s = true ∧ announcementsHeld s = false ∧ s.announcements = atFive c :: [] ∧ running s = true ∧
        (List.range 32).filter (newlyAt s (atFive c)) = [5, 9] := by decide +kernel

/-- R122: "Two or more entries due at one announcement fire in ascending index order, so their rings join the ring queue in
that order." -/
theorem test_entries_fire_in_index_order :
    let t := after .advance (withThree (announced false))
    ringIndexes t = [5, 9] ∧ t.bell.queue = [{ pattern := .double, origin := .scheduled }] := by decide +kernel

/-- The last second of week 65,535, at a station without SHIFT CHANGE entries; entry 5 passed by 120 and by 121 seconds, reached by a
backward step, and by a first one. -/
theorem witness_SetClockStepsTheClock :
    let ready (s : State) (new : Stamp) : Prop :=
      requestReady (asks 7 0x07#8 (putStamp new) s) 60 7 0x07#8 0x28#8 (putStamp new) [] ∧ new.week < 65536 ∧
        new.minute < 10080 ∧ new.second < 60 ∧ s.announcements = []
    (let s : State := { on with settings := { cfg with bells := [] } }
     ready s { week := 65535, minute := 10079, second := 59 } ∧ ∀ i, i < 32 → (s.settings.bell i).rush = 0) ∧
      ∀ q ∈ [(wednesday 839 0, 3722, 0, (120 : Int)), (wednesday 839 0, 3722, 1, 121), (wednesday 841 0, 3720, 30, 30),
             (clocked 0 0 10 0 false, 3720, 59, 59)],
        let new : Stamp := { week := 1203, minute := q.2.1, second := q.2.2.1 }
        ready q.1 new ∧ passedBy q.1 new 5 = (true, q.2.2.2) ∧ ∀ j, j < 32 → j ≠ 5 → (passedBy q.1 new j).1 = false := by
  unfold requestReady; decide +kernel

/-- Three entries passed by one forward step, of two times and, at the second, of two indexes; the two of the new minute at a backward
step. -/
theorem witness_SetClockStepsTheClock_order :
    ∀ q ∈ [(wednesday 838 30, [3, 5, 9]), (wednesday 842 0, [5, 9])],
      let s := withThree q.1
      let new : Stamp := { week := 1203, minute := 3720, second := 30 }
      requestReady (asks 7 0x07#8 (putStamp new) s) 60 7 0x07#8 0x28#8 (putStamp new) [] ∧ s.announcements = [] ∧
        q.2.Pairwise (fun i j => (s.settings.bell i).minute < (s.settings.bell j).minute ∨
          ((s.settings.bell i).minute = (s.settings.bell j).minute ∧ i < j)) ∧
        ∀ i, i < 32 → (i ∈ q.2 ↔ (passedBy s new i).1 = true ∧ (passedBy s new i).2 ≤ 120) := by
  unfold requestReady; decide +kernel

/-- R124: the entry of 13:59 fires before those of 14:00 at a step that passes both, whatever their indexes. -/
theorem test_passed_entries_fire_in_time_order :
    let s := withThree (wednesday 838 30)
    let swapped := { s with settings := { s.settings with
      bells := (s.settings.bells.set 3 (s.settings.bell 5)).set 5 (s.settings.bell 3) } }
    let stepsTo (s : State) := after .setClock (asks 0 0x07#8 (putStamp { week := 1203, minute := 3720, second := 30 }) s)
    ringIndexes (stepsTo s) = [3, 5, 9] ∧ ringIndexes (stepsTo swapped) = [5, 3, 9] := by decide +kernel

/-- Station 3 ahead by 2, by 1, and behind by 2, with CLOCK SET and without; a clock of its own that is not set; the source, zone and
clock at each limit, and one beyond. -/
theorem witness_BeaconMovesTheClockForward :
    let body (n zone minute second : Nat) : BeaconBody :=
      { roleCode := n, zone := zone, flags := beaconFlagsOf 0#8, stamp := { week := 1203, minute := minute, second := second }
        records := 0 }
    let gate (source : Nat) (b : BeaconBody) : Prop :=
      b.roleCode = 1 ∧ 1 ≤ source ∧ source ≤ 55 ∧ 1 ≤ b.zone ∧ b.zone ≤ 8
    let office (source : Nat) (b : BeaconBody) : Prop := b.roleCode = 2 ∧ 56 ≤ source ∧ source ≤ 63 ∧ b.zone = 0
    (∀ x ∈ [(17, 2), (16, 1), (13, -2)], ∀ isSet ∈ [true, false],
      let f := beaconFrame 3 isSet { week := 1203, minute := 1802, second := x.1 }
      running (hears f on) = true ∧ (hears f on).line.rx = f :: [] ∧ f.kind = .beacon ∧ gate f.source (getBeacon f.body) ∧
        (getBeacon f.body).stamp.minute < 10080 ∧ (getBeacon f.body).stamp.second < 60 ∧
        (getBeacon f.body).flags.clockSet = isSet ∧
        clockDiff (getBeacon f.body).stamp (hears f on).clock.stamp = x.2 ∧ (hears f on).clock.isSet = true) ∧
      (clocked 0 0 10 0 false).clock.isSet = false ∧
      (∀ q ∈ [(1, body 1 1 10079 59), (55, body 1 8 0 0)], gate q.1 q.2 ∧ getBeacon q.2.bytes = q.2) ∧
      (∀ q ∈ [(56, body 2 0 10079 59), (63, body 2 0 0 0)], office q.1 q.2 ∧ getBeacon q.2.bytes = q.2) ∧
      (∀ q ∈ [(0, body 1 1 0 0), (56, body 1 1 0 0), (1, body 1 0 0 0), (1, body 1 9 0 0), (55, body 2 0 0 0), (64, body 2 0 0 0),
              (56, body 2 1 0 0), (1, body 0 1 0 0), (56, body 3 0 0 0)],
        ¬gate q.1 q.2 ∧ ¬office q.1 q.2 ∧ getBeacon q.2.bytes = q.2) ∧
      ∀ b ∈ [body 1 1 10080 0, body 1 1 0 60], (10080 ≤ b.stamp.minute ∨ 60 ≤ b.stamp.second) ∧ getBeacon b.bytes = b := by
  decide +kernel

/-- A peer. -/
def peer (station age : Nat) (state : PeerState) : Peer :=
  { station := station, role := .gate, zone := 2, age := age, state := state, offset := 0, lagging := false,
    flags := { clockSet := true, isolated := false, bellFault := false, duplicate := false } }

/-- The station with peers. -/
def withPeers (l : List Peer) : State := { on with peers := { on.peers with entries := l } }

/-- A station with an entry; thirty-one entries; 32 with SILENT ones of the ages 48, 90 and 90; 32 LIVE ones. -/
theorem witness_PeerTableMakesRoom :
    let live := (List.range 31).map (fun k => peer (k + 8) 0 .live)
    let a := peer 1 48 .silent :: live.take 14
    let b := peer 3 90 .silent :: live.take 15
    (∃ q ∈ (withPeers live).peers.entries, q.station = (peer 38 5 .live).station) ∧
      (withPeers live).peers.entries.length < 32 ∧ (∀ q ∈ live, q.station ≠ 60) ∧ 32 ≤ (a ++ peer 2 90 .silent :: b).length ∧
      (∀ q ∈ a ++ peer 2 90 .silent :: b, q.station ≠ 60) ∧ (∀ r ∈ a, r.state = .silent → r.age < 90) ∧
      (∀ r ∈ b, r.state = .silent → r.age ≤ 90) ∧ 32 ≤ (peer 7 0 .live :: live).length ∧
      (∀ q ∈ peer 7 0 .live :: live, q.state = .live) := by decide +kernel

/-- One tick due; a hold of 60 and of 59 seconds. -/
theorem witness_ElapsedSecondsAge :
    let s : State := { on with timebase := { on.timebase with secondTicksDue := 1 } }
    (powered s = true ∧ s.timebase.secondTicksDue = 0 + 1) ∧
      ∀ n ∈ [59, 60], powered { on with peers := { on.peers with duplicate := some n } } = true ∧
        ({ on with peers := { on.peers with duplicate := some n } } : State).peers.duplicate = some n ∧ (60 ≤ n ∨ n < 60) := by
  decide +kernel

/-- The station with a beacon timer and n frames in its transmit queue. -/
def beacons (n : Nat) (p : TxPayload) : State :=
  { on with peers := { on.peers with beacon := some { count := 16, target := 16 } },
            line := { on.line with tx := List.replicate n { payload := p, attempts := 0 } } }

/-- A beacon still queued; a full queue; 15 frames. -/
theorem witness_BeaconFallsDue :
    (∀ s ∈ [beacons 1 .beacon, beacons 16 (.punch inNotice), beacons 15 (.punch inNotice)],
      running s = true ∧ s.peers.beacon = some { count := 16, target := 16 }) ∧
      (∃ f ∈ (beacons 1 .beacon).line.tx, f.payload = .beacon) ∧
      16 ≤ (beacons 16 (.punch inNotice)).line.tx.length + (beacons 16 (.punch inNotice)).line.reserved ∧
      (∀ f ∈ (beacons 15 (.punch inNotice)).line.tx, f.payload ≠ .beacon) ∧
      (beacons 15 (.punch inNotice)).line.tx.length + (beacons 15 (.punch inNotice)).line.reserved < 16 := by decide +kernel

/-! ### The roster and the week slots -/

/-- n records, of the badges 2 and on. -/
def crowd (n : Nat) : List Record := (List.range n).map (fun k => newRecord (k + 2) 1 2 1203)

/-- A record that is there; a new one with 1,023; with 1,024, addressed and broadcast; the least and the greatest badge. -/
theorem witness_EnrolInsertsOrUpdates :
    let params := put3 16777214 ++ put1 12 ++ put1 7
    (requestReady (asks 7 0x01#8 (put3 40117 ++ put1 0 ++ put1 0) (withRoster [worker] on)) 60 7 0x01#8 0x28#8
        (put3 40117 ++ put1 0 ++ put1 0) [] ∧
      (withRoster [worker] on).record 40117 = some worker) ∧
      (requestReady (asks 0 0x01#8 params (withRoster (crowd 1023) on)) 60 0 0x01#8 0x28#8 params [] ∧
        (withRoster (crowd 1023) on).record 16777214 = none ∧ (withRoster (crowd 1023) on).roster.length < 1024) ∧
      ∀ dest ∈ [0, 7],
        requestReady (asks dest 0x01#8 params (withRoster (crowd 1024) on)) 60 dest 0x01#8 0x28#8 params [] ∧
          (withRoster (crowd 1024) on).record 16777214 = none ∧ 1024 ≤ (withRoster (crowd 1024) on).roster.length := by
  unfold requestReady; decide +kernel

/-- Each request for a badge with no record, and with one of each status and presence. -/
theorem witness_OfficeChangesARecord :
    (∀ code ∈ [0x02#8, 0x03#8, 0x04#8], ∀ badge ∈ [1, 16777214],
      requestReady (asks 7 code (put3 badge) on) 60 7 code 0x28#8 (put3 badge) [] ∧ on.record badge = none) ∧
      (∀ code ∈ [0x02#8, 0x03#8, 0x04#8],
        ∀ x ∈ [worker, workerIn, { worker with status := .barred }, { workerIn with status := .leaving }],
          requestReady (asks 0 code (put3 40117) (withRoster [x] on)) 60 0 code 0x28#8 (put3 40117) [] ∧
            (asks 0 code (put3 40117) (withRoster [x] on)).record 40117 = some x) ∧
      ∀ index ∈ [0, 8],
        requestReady (asks 7 0x05#8 (put3 40117 ++ put1 index) (withRoster [worker] on)) 60 7 0x05#8 0x28#8
          (put3 40117 ++ put1 index) [] := by
  unfold requestReady; decide +kernel

/-- Week 1202, which one record's PREVIOUS slot has, and week 65,535, which none has. -/
theorem witness_WeekCollectedMarksPreviousSlots :
    requestReady (asks 7 0x09#8 (put2 1202) (withRoster [worker] on)) 60 7 0x09#8 0x28#8 (put2 1202) [] ∧
      requestReady (asks 7 0x09#8 (put2 65535) (withRoster [worker] on)) 60 7 0x09#8 0x28#8 (put2 65535) [] ∧
      (∃ x ∈ (withRoster [worker] on).roster, x.previous.tag = 1202) ∧
      (∀ x ∈ (withRoster [worker] on).roster, x.previous.tag ≠ 65535) := by
  unfold requestReady; decide +kernel

/-- A result with its in-stamp in another week. -/
def resultOf (week : Nat) : PayResult := { caseOne with key := { caseOne.key with stamp := { inStamp with week := week } } }

/-- No last punch; a later key; one second earlier; the same stamp from a lower and from a higher station; a key credited before; an
accumulator of the result's occurrence, none, and one of another; results of CURRENT's week, PREVIOUS's and neither's; a LEAVING
record. -/
theorem witness_HeardPunchIsApplied :
    (∀ q ∈ [(2, inNotice), (3, inNotice), (4, inNotice), (12, outNotice), (12, { outNotice with result := some (resultOf 1202) }),
            (12, { outNotice with result := some (resultOf 1201) })],
      ∀ x ∈ [worker, workerIn, { workerIn with credited := [openIv.key] }, { workerIn with acc := some (Accumulator.fresh 0 1) },
             { workerIn with lastPunch := some { key := { stamp := outStamp, station := 3 }, direction := .inward } },
             { workerIn with status := .leaving }],
        let s := hears (punchFrame q.1 q.2) (withRoster [x] on)
        running s = true ∧ s.line.rx = punchFrame q.1 q.2 :: [] ∧ (punchFrame q.1 q.2).kind = .punch ∧
          getPunch (punchFrame q.1 q.2).body = some q.2 ∧ q.2.valid (punchFrame q.1 q.2).source = true ∧
          s.record q.2.badge = some x) ∧
      worker.lastPunch = none ∧ workerIn.lastPunch = some { key := openIv.key, direction := .inward } ∧
      0 < clockDiff outStamp inStamp ∧ clockDiff inStamp outStamp < 0 ∧ clockDiff inStamp inStamp = 0 ∧
      openIv.key.station < 4 ∧ 3 ≤ openIv.key.station ∧ workerIn.interval.isSome = true ∧ outNotice.result = some caseOne ∧
      caseOne.key ∈ ({ workerIn with credited := [openIv.key] } : Record).credited ∧ caseOne.key ∉ workerIn.credited ∧
      workerIn.acc = some (Accumulator.fresh 12128040 1) ∧ caseOne.start = some (Accumulator.fresh 12128040 1).start ∧
      caseOne.start ≠ some (Accumulator.fresh 0 1).start ∧ workerIn.current.tag = 1203 ∧ workerIn.previous.tag = 1202 := by
  decide +kernel

/-- An occurrence kind that is none; a stamp out of its range; a badge with no record. -/
theorem witness_HeardPunchIsDiscarded :
    let late : PunchNotice := { inNotice with stamp := { inStamp with second := 60 } }
    let strange : RxFrame := { punchFrame 3 inNotice with body := inNotice.bytes.set 13 3#8 }
    (∀ f ∈ [strange, punchFrame 3 late, punchFrame 3 inNotice, punchFrame 55 inNotice],
      running (hears f on) = true ∧ (hears f on).line.rx = f :: [] ∧ f.kind = .punch) ∧
      getPunch strange.body = none ∧ getPunch late.bytes = some late ∧ late.valid 3 = false ∧
      getPunch inNotice.bytes = some inNotice ∧ inNotice.valid 55 = true ∧ inNotice.valid 56 = false ∧
      on.record inNotice.badge = none := by decide +kernel

/-! ### The readers and the Punch Unit -/

/-- A channel DISABLED; one ENABLED with no read in progress, and with a read of each rail, free and stuck. -/
theorem witness_PulsesMakeARead :
    channelEnabled unconfigured .entry = false ∧ channelEnabled on .entry = true ∧ channelEnabled on .exit = true ∧
      ∀ z ∈ [true, false], ∀ o ∈ [true, false], let x := { readOf goodCode with zeroStuck := z, oneStuck := o }
        channelEnabled (hasRead x) .entry = true ∧ ((hasRead x).channel .entry).read = some x := by
  decide +kernel

/-- A read at 24 ms and one with each rail stuck; a BAD READ of each cause, at the 25 ms, and a WRONG SITE read: the code 0x2D for
site 45 has the check byte 0xFB. -/
theorem witness_ChannelRefusals :
    let other := readOf [0x2D#8, 0x00#8, 0x9C#8, 0xB5#8, 0xFB#8]
    let bad := [{ readOf goodCode with spoiled := true }, { readOf goodCode with count := 39 },
      readOf [0x2C#8, 0x00#8, 0x9C#8, 0xB5#8, 0xFB#8], readOf [0x2C#8, 0x00#8, 0x00#8, 0x00#8, 0xD3#8],
      readOf [0x2C#8, 0xFF#8, 0xFF#8, 0xFF#8, 0x2C#8]]
    (∀ x ∈ [{ other with lastEnd := 99976 }, { other with zeroStuck := true }, { other with oneStuck := true }],
      channelEnabled (hasRead x) .entry = true ∧ ((hasRead x).channel .entry).read = some x ∧
        (x.zeroStuck = true ∨ x.oneStuck = true ∨ elapsedSince (hasRead x).now x.lastEnd < 25)) ∧
      (∀ x ∈ other :: bad, channelEnabled (hasRead x) .entry = true ∧ ((hasRead x).channel .entry).read = some x ∧
        x.zeroStuck = false ∧ x.oneStuck = false ∧ 25 ≤ elapsedSince (hasRead x).now x.lastEnd) ∧
      goodCode.length = 5 ∧ (codeBits goodCode).length = 40 ∧
      (∀ x ∈ bad, x.spoiled = true ∨ x.count ≠ 40 ∨ codeCheckOk x.bits = false ∨ codeBadge x.bits = 0 ∨
        codeBadge x.bits = 16777215) ∧
      other.spoiled = false ∧ other.count = 40 ∧ codeCheckOk other.bits = true ∧ 1 ≤ codeBadge other.bits ∧
      codeBadge other.bits ≤ 16777214 ∧ codeSite other.bits ≠ (hasRead other).settings.siteCode := by decide +kernel

/-- The station with a read of the worker in progress and a waiting queue. -/
def queued (l : List WaitEntry) : State := { hasRead (readOf goodCode) with waiting := l }

/-- The station with a rush window open. -/
def rushing (s : State) : State := { s with bell := { s.bell with rush := some 12128055 } }

/-- A repeat of each kind; an empty queue; with a rush window, queues of 3 and 4; without one, a queue of 1. -/
theorem witness_ReadsJoinTheQueue :
    let repeats : List State :=
      [queued [waits .entry], { queued [] with pendingPunch := some (pends .entry .isOut) },
       { queued [] with entryChannel := { (queued []).entryChannel with suppression := [{ badge := 40117, time := 0 }] } }]
    let fresh : List State :=
      [queued [], queued [waits .exit], rushing (queued [waits .exit, waits .exit, waits .exit]),
       rushing (queued [waits .exit, waits .exit, waits .exit, waits .exit])]
    (∀ s ∈ repeats ++ fresh, channelEnabled s .entry = true ∧ (s.channel .entry).read = some (readOf goodCode) ∧
      25 ≤ elapsedSince s.now (readOf goodCode).lastEnd ∧ codeSite (readOf goodCode).bits = s.settings.siteCode) ∧
      (readOf goodCode).spoiled = false ∧ (readOf goodCode).count = 40 ∧ codeCheckOk (readOf goodCode).bits = true ∧
      1 ≤ 40117 ∧ 40117 ≤ 16777214 ∧ codeBadge (readOf goodCode).bits = 40117 ∧
      (readOf goodCode).zeroStuck = false ∧ (readOf goodCode).oneStuck = false ∧
      (∀ s ∈ repeats, (∃ e ∈ (s.channel .entry).suppression, e.badge = 40117) ∨
        (∃ w ∈ s.waiting, w.reader = .entry ∧ w.badge = 40117) ∨ s.pendingPunch = some (pends .entry .isOut)) ∧
      (∀ s ∈ fresh, (∀ e ∈ (s.channel .entry).suppression, e.badge ≠ 40117) ∧
        (∀ w ∈ s.waiting, w.reader = .entry → w.badge ≠ 40117) ∧ s.pendingPunch = none) ∧
      fresh.map (fun s => (decide (s.waiting.length < (if s.bell.rush.isSome then 4 else 1)))) = [true, false, true, false] := by
  decide +kernel

/-- The station with a channel at EXIT. -/
def atExit (c : Channel) : State := { on with exitChannel := c }

/-- Without power, in BACKUP, UNCONFIGURED, reading; a DISABLED channel; an indication of each kind; an entry that waits, and none. -/
theorem witness_ReaderTimersRunOut_lamps :
    let off : State := { on with starts := { on.starts with supply := .lost } }
    let exitOnly : State := { on with settings := { cfg with gateRole := .exitOnly } }
    off.starts.supply = .lost ∧
      (∀ s ∈ [inBackup none, unconfigured, reading], s.starts.supply ≠ .lost ∧ running s = false) ∧
      running exitOnly = true ∧ channelEnabled exitOnly .entry = false ∧
      (∀ b ∈ [true, false], let i : Indication := { admitted := b, start := 99000 }
        let s := atExit { Channel.empty with indication := some i }
        channelEnabled s .exit = true ∧ (s.channel .exit).indication = some i) ∧
      channelEnabled (queued [waits .exit]) .exit = true ∧ ((queued [waits .exit]).channel .exit).indication = none ∧
      (∃ w ∈ (queued [waits .exit]).waiting, w.reader = .exit) ∧ ∀ w ∈ (queued [waits .entry]).waiting, w.reader ≠ .exit := by
  decide +kernel

/-- An entry of 4 seconds, an indication of 3, the phases of a tone. -/
theorem witness_ReaderTimersRunOut :
    (channelEnabled (atExit { Channel.empty with suppression := [{ badge := 40117, time := 96000 }] }) .exit = true ∧
      4000 ≤ elapsedSince on.now 96000 ∧ 3000 ≤ elapsedSince on.now 97000) ∧
      (∀ t ∈ [firstTone true 99700, firstTone false 99850, { firstTone false 99850 with sounding := false }],
        channelEnabled (atExit { Channel.empty with tone := some t }) .exit = true ∧
          ((atExit { Channel.empty with tone := some t }).channel .exit).tone = some t ∧
          t.timer.duration ≤ elapsedSince on.now t.timer.start) ∧
      (firstTone true 99700).toCome = 0 ∧ (firstTone false 99850).toCome ≠ 0 ∧ (firstTone false 99850).sounding = true := by
  decide +kernel

/-- The head timed out, and the second entry alone. -/
theorem witness_WaitingReadsTimeOut :
    let old : WaitEntry := { waits .exit with readAt := 90000 }
    let young : WaitEntry := { waits .entry with readAt := 90001 }
    ∀ a ∈ [[], [young]],
      running (queued (a ++ old :: [young])) = true ∧ (queued (a ++ old :: [young])).waiting = a ++ old :: [young] ∧
        (∀ v ∈ a, elapsedSince (queued (a ++ old :: [young])).now v.readAt < 10000) ∧
        10000 ≤ elapsedSince (queued (a ++ old :: [young])).now old.readAt := by decide +kernel

/-- Every branch: free passage, each policy, an isolated station, a clock that is not set, each record. -/
theorem witness_DecisionTable :
    freePassageOn { on with gate := { on.gate with freePassage := level true } } = true ∧ freePassageOn on = false ∧
      on.settings.passback = .hard ∧ isolated on = true ∧ isolated (withPeers [peer 3 0 .live]) = false ∧
      isolated (withPeers [peer 3 90 .silent]) = true ∧
      ({ cfg with degrade := true, passback := .soft } : Settings).degrade = true ∧
      (clocked 0 0 10 0 false).clock.isSet = false ∧ on.clock.isSet = true ∧ policyNow on = .hard ∧
      policyNow { on with settings := { cfg with degrade := true } } = .soft ∧
      policyNow { on with settings := { cfg with passback := .off } } = .off ∧ on.record 40117 = none ∧
      (withRoster [worker] on).record 40117 = some worker ∧ (withRoster [workerIn] on).record 40117 = some workerIn := by
  decide +kernel

/-- The worker, who is IN, at the ENTRY of a station with policy HARD, in IDLE; a badge without a record in FREE. -/
theorem witness_RefusalAtDecision :
    ∀ q ∈ [(({ withRoster [workerIn] on with waiting := [waits .entry] } : State), Reason.passback),
           ({ inCycle .free with waiting := [waits .entry] }, .unknown)],
      running q.1 = true ∧ q.1.waiting = waits .entry :: [] ∧ (q.1.gate.cycle = .idle ∨ q.1.gate.cycle = .free) ∧
        q.1.line.tx.length + q.1.line.reserved < 16 ∧ decisionOf q.1 (waits .entry) = .refuse q.2 := by decide +kernel

/-- The worker, who is OUT, at ENTRY and at EXIT, and a badge at EXIT while CLOCK SET is false; in IDLE with a door contact and
without one, and in FREE; with a message to deliver and without. -/
theorem witness_AdmissionReleasesTheGate :
    (∀ r ∈ [Reader.entry, .exit], ∀ m ∈ [none, some 8], ∀ c ∈ [Cycle.idle, .free], ∀ confirm ∈ [true, false],
      let s : State := { withRoster [{ worker with message := m }] (inCycle c) with
        waiting := [waits r], settings := { cfg with confirm := confirm } }
      running s = true ∧ s.waiting = waits r :: [] ∧ s.gate.cycle = c ∧ s.settings.confirm = confirm ∧
        s.line.tx.length + s.line.reserved < 16 ∧ decisionOf s (waits r) = .admission false (decide (r = .exit)) .isOut ∧
        (commitRoster (pendingOf (waits r) s.clock.stamp false false .isOut) s.clock.stamp s).2.message = m) ∧
      ∀ c ∈ [Cycle.idle, .free], ∀ confirm ∈ [true, false],
        let s : State := { inCycle c with
          waiting := [waits .exit], settings := { cfg with confirm := confirm }, clock := { on.clock with isSet := false } }
        running s = true ∧ s.waiting = waits .exit :: [] ∧ s.gate.cycle = c ∧ s.settings.confirm = confirm ∧
          s.line.tx.length + s.line.reserved < 16 ∧ decisionOf s (waits .exit) = .passage := by decide +kernel

/-- No head, a station UNCONFIGURED, a cycle that decides nothing; 15 frames; 16 frames, and 15 with a reservation, before a head
held already and one not yet held. -/
theorem witness_AdmissionReleasesTheGate_held :
    let head (held : Bool) (n reserved : Nat) (c : Cycle) : State :=
      { inCycle c with waiting := [{ waits .entry with held := held }]
                       line := { (beacons n .beacon).line with reserved := reserved } }
    on.waiting = [] ∧ running unconfigured = false ∧ (inCycle .passing).gate.cycle ≠ .idle ∧
      (inCycle .passing).gate.cycle ≠ .free ∧ (head false 15 0 .idle).line.tx.length + (head false 15 0 .idle).line.reserved < 16 ∧
      ∀ held ∈ [true, false], ∀ c ∈ [Cycle.idle, .free], ∀ q ∈ [(16, 0), (15, 1)], let s := head held q.1 q.2 c
        running s = true ∧ s.gate.cycle = c ∧ 16 ≤ s.line.tx.length + s.line.reserved ∧
          s.waiting = { waits .entry with held := held } :: [] := by decide +kernel

/-! ### The gate -/

/-- The station in OFF with accepted levels of the door and of free passage. -/
def levels (door free : Bool) : State :=
  { on with gate := { on.gate with cycle := .off, door := level door, freePassage := level free } }

/-- Free passage asserted, the door open, and neither. -/
theorem witness_InputsEstablishedLeaveOff :
    ∀ s ∈ [levels false true, levels true false, levels false false],
      running s = true ∧ s.gate.cycle = .off ∧ s.settings.confirm = true ∧ s.gate.door.accepted.isSome = true ∧
        s.gate.button.accepted.isSome = true ∧
        (s.gate.freePassage.accepted = some true ∨
          (s.gate.freePassage.accepted = some false ∧ s.gate.door.accepted = some true) ∨
          (s.gate.freePassage.accepted = some false ∧ s.gate.door.accepted = some false)) := by decide +kernel

/-- The station with an event of each input latched before the controller left OFF. -/
def early (b : Bool) (c : Cycle) : State :=
  let i : Input := { level b with latched := [{ level := b, early := true }] }
  { on with gate := { on.gate with cycle := c, door := i, button := i, freePassage := i } }

/-- A closing in PASSING; in a state without an effect; and one latched early. -/
theorem witness_DoorClosingEndsThePassage :
    (∀ c ∈ [Cycle.passing, .idle, .released, .free, .off], running (atDoor c false) = true ∧ (atDoor c false).gate.cycle = c ∧
      (atDoor c false).gate.door.latched = { level := false, early := false } :: []) ∧
      running (early false .passing) = true ∧
      (early false .passing).gate.door.latched = { level := false, early := true } :: [] := by decide +kernel

/-- HELD OPEN and FORCED, with a closing, with a press, with a Remote Release. -/
theorem witness_HeldOpenAndForcedWaitForTheDoor :
    ∀ c ∈ [Cycle.heldOpen, .forced],
      (running (atDoor c false) = true ∧ (atDoor c false).gate.cycle = c ∧
        (atDoor c false).gate.door.latched = { level := false, early := false } :: []) ∧
      (let s := atButton c
       running s = true ∧ s.gate.cycle = c ∧ s.gate.button.latched = { level := true, early := false } :: []) ∧
      requestReady (asks 7 0x10#8 [] (inCycle c)) 60 7 0x10#8 0x28#8 [] [] ∧ (asks 7 0x10#8 [] (inCycle c)).gate.cycle = c := by
  unfold requestReady; decide +kernel

/-- An opening in a state without an effect, and one latched early; an opening in IDLE; in RELEASED without a punch, with a PUNCH at
each reader, with a PASSAGE. -/
theorem witness_DoorOpeningsForceOrPass :
    (∀ s ∈ [atDoor .passing true, early true .idle], running s = true ∧ ∀ e ∈ s.gate.door.latched, e.level = true ∧
      (e.early = true ∨ (s.gate.cycle ≠ .idle ∧ s.gate.cycle ≠ .released))) ∧
    (early true .idle).gate.door.latched = { level := true, early := true } :: [] ∧
    (∀ c ∈ [Cycle.idle, .released], running (atDoor c true) = true ∧ (atDoor c true).gate.cycle = c ∧
      (atDoor c true).gate.door.latched = { level := true, early := false } :: [] ∧ (atDoor c true).pendingPunch = none) ∧
      ∀ p ∈ [pends .exit .isIn, pends .entry .isOut, passageOf (waits .exit)],
        running (released p) = true ∧ (released p).gate.cycle = .released ∧ (released p).pendingPunch = some p ∧
          (released p).gate.door.latched = { level := true, early := false } :: [] ∧ p.stamped ∧
          (p.kind = .passage ∨ (p.kind = .punch ∧ p.stamp = some outStamp)) := by
  unfold PendingPunch.stamped; decide +kernel

/-- A badge without a record; the worker OUT at ENTRY; IN at EXIT, with a new key and with a key credited before; without an open
interval at EXIT. -/
theorem witness_OwnCommitChangesTheRecord :
    on.record (pends .entry .isOut).badge = none ∧ on.record (pends .exit .isIn).badge = none ∧
    (withRoster [worker] on).record (pends .entry .isOut).badge = some worker ∧
      (withRoster [workerIn] on).record (pends .exit .isIn).badge = some workerIn ∧ (pends .entry .isOut).reader = .entry ∧
      (pends .exit .isIn).reader = .exit ∧ worker.interval = none ∧ workerIn.interval = some openIv ∧
      closeInterval cfg openIv workerIn.acc outStamp (cfg.rate workerIn.rateClass) =
        (caseOne, (closeInterval cfg openIv workerIn.acc outStamp 1850).2) ∧
      openIv.key ∉ workerIn.credited ∧ openIv.key ∈ ({ workerIn with credited := [openIv.key] } : Record).credited ∧
      (withRoster [{ workerIn with status := .leaving }] on).record (pends .exit .isIn).badge =
        some { workerIn with status := .leaving } := by
  decide +kernel

/-- A press and a Remote Release in IDLE and in FORCED; a press latched early. -/
theorem witness_ReleasesWithoutAPunch :
    (running (early true .idle) = true ∧ (early true .idle).gate.cycle = .idle ∧
      (early true .idle).gate.button.latched = { level := true, early := true } :: []) ∧
    ∀ c ∈ [Cycle.idle, .forced],
      (running (atButton c) = true ∧ (atButton c).gate.cycle = c ∧
        (atButton c).gate.button.latched = { level := true, early := false } :: []) ∧
      requestReady (asks 7 0x10#8 [] (inCycle c)) 60 7 0x10#8 0x28#8 [] [] ∧ (asks 7 0x10#8 [] (inCycle c)).gate.cycle = c := by
  unfold requestReady; decide +kernel

/-- The station with both timers at their durations. -/
def gateTimed (c : Cycle) (t : Timer) : State := { on with gate := { on.gate with cycle := c, releaseTimer := some t, holdTimer := some t } }

/-- The release timer with and without a punch pending; the hold timer with and without a rush window. -/
theorem witness_GateTimersRunOut :
    let t : Timer := { start := 94000, duration := 6000 }
    (∀ s ∈ [gateTimed .released t, { gateTimed .released t with pendingPunch := some (pends .exit .isIn) }],
      running s = true ∧ t.duration ≤ elapsedSince s.now t.start ∧ s.gate.cycle = .released ∧ s.gate.releaseTimer = some t) ∧
      ∀ s ∈ [gateTimed .passing t, rushing (gateTimed .passing t)],
        running s = true ∧ t.duration ≤ elapsedSince s.now t.start ∧ s.gate.cycle = .passing ∧ s.gate.holdTimer = some t ∧
          (s.bell.rush = none ∨ s.bell.rush.isSome = true) := by decide +kernel

/-- The station with a free-passage event latched, in a state of the release cycle. -/
def atFree (c : Cycle) (on_ : Bool) : State := { on with gate := { on.gate with cycle := c, freePassage := event on_ } }

/-- An assertion in IDLE, in RELEASED with a punch and with a passage, and while UNCONFIGURED; a release with the door open and closed. -/
theorem witness_FreePassageOpensTheGate :
    let p := pends .exit .isIn
    let stop (s : State) : State := { s with starts := unconfigured.starts }
    let opened : State := { atFree .free false with gate := { (atFree .free false).gate with door := level true } }
    (∀ s ∈ [atFree .idle true, { atFree .released true with pendingPunch := some p },
            { atFree .released true with pendingPunch := some (passageOf (waits .exit)) }],
      running s = true ∧ s.gate.freePassage.latched = { level := true, early := false } :: [] ∧ s.gate.cycle ≠ .off ∧
        s.gate.cycle ≠ .free) ∧
      p.stamped ∧ (passageOf (waits .exit)).stamped ∧ p.kind = .punch ∧ p.stamp = some outStamp ∧
      (passageOf (waits .exit)).kind = .passage ∧
      (∀ s ∈ [opened, atFree .free false], running s = true ∧ s.gate.cycle = .free ∧ s.settings.confirm = true ∧
        s.gate.freePassage.latched = { level := false, early := false } :: [] ∧
        (s.gate.door.accepted = some true ∨ s.gate.door.accepted ≠ some true)) ∧
      unconfiguredMain (stop (atFree .off true)) = true ∧ unconfiguredMain (stop (atFree .free false)) = true := by
  unfold PendingPunch.stamped; decide +kernel

/-- An assertion in OFF and in FREE, a release in IDLE, and either latched early; the first accepted level while UNCONFIGURED. -/
theorem witness_FreePassageOpensTheGate_taken :
    (∀ s ∈ [atFree .off true, atFree .free true, early true .idle], running s = true ∧ ∀ e ∈ s.gate.freePassage.latched,
      e.level = true ∧ (e.early = true ∨ s.gate.cycle = .off ∨ s.gate.cycle = .free)) ∧
      (∀ s ∈ [atFree .idle false, early false .free], running s = true ∧ ∀ e ∈ s.gate.freePassage.latched,
        e.level = false ∧ (e.early = true ∨ s.gate.cycle ≠ .free)) ∧
      (∀ s ∈ [atFree .off true, early true .idle, atFree .idle false, early false .free],
        s.gate.freePassage.latched.length = 1) ∧
      let s : State := { unconfigured with gate := { on.gate with cycle := .off, freePassage := level true } }
      unconfiguredMain s = true ∧ s.gate.freePassage.latched = [] ∧ s.gate.freePassage.accepted = some true := by decide +kernel

/-! ### The Pay Calculator -/

/-- Punches at each edge of both windows, one minute outside them, and across the wrap of absolute minutes. -/
theorem witness_PunchesAreRounded :
    0 < dayShift.unit ∧ 12128040 < 660602880 ∧ 660602879 < 660602880 ∧ absDiff 12128030 12128040 = -10 ∧
      absDiff 12128045 12128040 = 5 ∧ absDiff 12128029 12128040 < -10 ∧ 5 < absDiff 12128046 12128040 ∧
      absDiff 12128515 (absAdd 12128040 480) = -5 ∧ absDiff 12128530 (absAdd 12128040 480) = 10 ∧
      absDiff 12128514 (absAdd 12128040 480) < -5 ∧ 10 < absDiff 12128531 (absAdd 12128040 480) ∧
      absDiff 0 660602879 = 1 := by decide +kernel

theorem witness_OccurrenceIsTheNearestStart :
    (1 : Nat) ≠ 0 ∧ (cfg.shift 1).start < 1440 ∧ (cfg.shift 12).start < 1440 := by decide +kernel

/-- Each cause of a zero result: NO SHIFT; an out stamp one second before the in-stamp; 2,881 minutes; a span of 0 by its rounding.
A result of 2,880 minutes raw, and worked case 1: with no accumulator, with one of the occurrence, its break to come and deducted
already, and with one of another occurrence; an OFF DAY. -/
theorem witness_ResultIdentities :
    let span (iv : OpenInterval) (out : Stamp) : Int :=
      absDiff (effectiveOut (cfg.shift iv.code) iv.kind iv.start (outMinute out))
        (effectiveIn (cfg.shift iv.code) iv.kind iv.start (inMinute iv.key.stamp))
    let raw (out : Stamp) : Int := absDiff (out.abs % 660602880) ((inStamp.abs + 1) % 660602880)
    (∀ code ∈ [0, 1], (cfg.shift code).limit ≤ (cfg.shift code).limit2) ∧
      clockDiff { inStamp with second := 19 } inStamp < 0 ∧ openIv.kind ≠ .noShift ∧
      (∀ out ∈ [{ inStamp with minute := 1781 + 2882 }, { inStamp with minute := 1790 }, outStamp], 0 ≤ clockDiff out inStamp) ∧
      2880 < raw { inStamp with minute := 1781 + 2882 } ∧ raw { inStamp with minute := 1781 + 2881 } ≤ 2880 ∧
      raw { inStamp with minute := 1790 } ≤ 2880 ∧ span openIv { inStamp with minute := 1790 } ≤ 0 ∧ raw outStamp ≤ 2880 ∧
      (∀ iv ∈ [openIv, { openIv with kind := .offDay }], 0 < span iv outStamp ∧ iv.start = some 12128040) ∧
      (∃ b, workerIn.acc = some b ∧ b.start = 12128040 ∧ b.breakState = .none) ∧ (Accumulator.fresh 0 1).start ≠ 12128040 ∧
      (closeInterval cfg openIv none outStamp 1850).1.flags.breakDeducted = true ∧
      (closeInterval cfg openIv (some { Accumulator.fresh 12128040 1 with breakState := .deducted }) outStamp 1850).1.flags.breakDeducted
        = false := by
  decide +kernel

/-- R89: a punch equally far from two starts takes the later: 18:00 lies 720 minutes after Tue 06:00 and before Wed 06:00. -/
theorem test_tie_takes_the_later_start :
    (chooseOccurrence cfg 1 { week := 1203, minute := 2520, second := 0 }).start = some (12128040 + 1440) := by decide +kernel

/-! ### The bell -/

/-- The RING notice of entry 5 on week 1203 Wednesday. -/
def ringOf5 : RingNotice := { zone := 2, index := 5, week := 1203, day := 2, minute := 840, pattern := .triple }

/-- Notices that fail one check each, and two at the limits of every check. -/
theorem witness_RingNoticeIsFollowed_checks :
    (∀ q ∈ [(1, ({ ringOf5 with zone := 1, index := 0, day := 0, minute := 0, pattern := .continuous 1 } : RingNotice)),
            (55, { ringOf5 with zone := 8, index := 31, day := 6, minute := 1439, pattern := .continuous 30 })],
      ringValid q.2.bytes q.1 = true ∧ getRing q.2.bytes = q.2) ∧
      ∀ q ∈ [(0, ringOf5), (56, ringOf5), (15, { ringOf5 with zone := 0 }), (15, { ringOf5 with zone := 9 }),
             (15, { ringOf5 with index := 32 }), (15, { ringOf5 with day := 7 }), (15, { ringOf5 with minute := 1440 }),
             (15, { ringOf5 with pattern := .continuous 0 }), (15, { ringOf5 with pattern := .continuous 31 })],
        ringValid q.2.bytes q.1 = false := by decide +kernel

/-- "One zone at a shift change": the notice at 13:59:59, at 13:58:00 and at 14:02:00, and one second beyond; of another zone, another
week, another day, without CLOCK SET; of another minute, at a mark set, on a faulted bell; on a bell that sounds, with a ring queue of
3 and of 4, with a rush window open. -/
theorem witness_RingNoticeIsFollowed :
    let e := entry5
    let heard (r : RingNotice) (s : State) : State :=
      hears { kind := .ring, source := 15, destination := 0, body := r.bytes } s
    (∀ q ∈ [(839, 59, (-1 : Int)), (838, 0, -120), (842, 0, 120), (837, 59, -121), (842, 1, 121)],
      let s := heard ringOf5 (wednesday q.1 q.2.1)
      running s = true ∧ ringValid ringOf5.bytes 15 = true ∧ getRing ringOf5.bytes = ringOf5 ∧ e = s.settings.bell 5 ∧
        ringOf5.zone = s.settings.zone ∧ s.clock.isSet = true ∧ ringOf5.week = s.clock.week ∧
        ringOf5.day = dayOfWeek s.clock.minute ∧ appliesToday s 5 = true ∧ ringOf5.minute = e.minute ∧ marked s 5 = false ∧
        clockDiff s.clock.stamp (entryStamp s 5) = q.2.2) ∧
      (let s := wednesday 842 0
       0 < e.rush ∧ s.bell.rush = none ∧ absDiff s.clock.abs (absAdd (entryMinute s 5) e.rush) < 0 ∧ s.bell.state = .ready ∧
        s.bell.sounder = .quiet ∧ s.bell.queue = [] ∧ BellState.faultedShort ≠ .ready ∧ marked (setMark 5 s) 5 = true ∧
        ({ ringOf5 with zone := 3 } : RingNotice).zone ≠ s.settings.zone ∧
        ({ ringOf5 with week := 1202 } : RingNotice).week ≠ s.clock.week ∧
        ({ ringOf5 with day := 1 } : RingNotice).day ≠ dayOfWeek s.clock.minute ∧
        (clocked 1203 3722 0 0 false).clock.isSet = false ∧ ({ ringOf5 with minute := 841 } : RingNotice).minute ≠ e.minute ∧
        appliesToday (clocked 1203 (7200 + 842) 0 0 true) 5 = false) ∧
      ∀ n ∈ [0, 3, 4], ∀ rush ∈ [none, some 12128055],
        let s := heard ringOf5 { wednesday 842 0 with
          bell := { Bell.initial with sounder := .striking, queue := List.replicate n { pattern := .long, origin := .scheduled }
                                      rush := rush } }
        running s = true ∧ marked s 5 = false ∧ s.bell.state = .ready ∧ s.bell.sounder ≠ .quiet ∧ s.bell.queue.length = n ∧
          s.bell.rush = rush ∧ clockDiff s.clock.stamp (entryStamp s 5) = 120 := by decide +kernel

/-- "One zone at a shift change": station 9 follows: the window ends at 14:15. -/
theorem test_hear_ring_follows :
    (after .hearRing (hears { kind := .ring, source := 15, destination := 0, body := ringOf5.bytes } (wednesday 839 59))).bell.rush =
      some (absMinute 1203 (2880 + 855)) := by decide +kernel

/-- A bell in a stroke, gap or pause of 1 second that has run out, with its samples' sum and the run above the limit. -/
def sounds (so : Sounder) (c : Option Sounding) (sum run : Nat) : State :=
  withBell { Bell.initial with sounder := so, current := c, timer := some { start := 99000, duration := 1000 }, sum := sum,
                               number := 950, aboveRun := run }

/-- A ring to come. -/
def triple : Ring := { pattern := .triple, origin := .scheduled }

/-- A mean at the open limit and one below it, in a ring's stroke, its last and a Bell Test. -/
theorem witness_StrokesAreJudgedByTheirMean :
    let s := sounds .striking (some (.ring triple 2)) 285000 2
    running s = true ∧ s.bell.sounder = .striking ∧ s.bell.timer = some { start := 99000, duration := 1000 } ∧
      1000 ≤ elapsedSince s.now 99000 ∧ s.bell.aboveRun < 3 ∧ 0 < s.bell.number ∧
      s.settings.openLimit ≤ s.bell.sum / s.bell.number ∧ s.bell.current = some (.ring triple (1 + 1)) ∧
      (sounds .striking (some (.ring triple 0)) 284999 0).bell.sum / 950 < s.settings.openLimit ∧
      (sounds .striking (some (.test 60 0x28#8)) 285000 0).bell.current = some (.test 60 0x28#8) := by decide +kernel

/-- A cut of a ring and of a test; a gap; a pause with an empty queue, with a ring waiting, and with a faulted bell. -/
theorem witness_SounderMovesOn :
    let pause (q : List Ring) (b : BellState) : State :=
      withBell { (sounds .pause none 0 0).bell with queue := q, state := b }
    (∀ c ∈ [Sounding.ring triple 2, .test 60 0x28#8], let s := sounds .striking (some c) 0 3
      running s = true ∧ s.bell.sounder = .striking ∧ 3 ≤ s.bell.aboveRun ∧ s.bell.current = some c) ∧
      (let s := sounds .gap (some (.ring triple 1)) 0 0
       running s = true ∧ s.bell.sounder = .gap ∧ s.bell.current = some (.ring triple (0 + 1)) ∧
        s.bell.timer = some { start := 99000, duration := 1000 } ∧ 1000 ≤ elapsedSince s.now 99000) ∧
      ∀ q ∈ [(([] : List Ring), BellState.ready), ([triple], .ready), ([triple], .faultedOpen)], let s := pause q.1 q.2
        running s = true ∧ s.bell.sounder = .pause ∧ s.bell.queue = q.1 ∧ s.bell.state = q.2 ∧
          s.bell.timer = some { start := 99000, duration := 1000 } ∧ 1000 ≤ elapsedSince s.now 99000 := by decide +kernel

/-- A Ring Now on a full queue, addressed and broadcast, on one of 3 rings, and on a QUIET bell, READY and faulted; a Bell Test QUIET
and not. -/
theorem witness_OfficeRingsAndTests :
    let pausing (n : Nat) : State := withBell { (sounds .pause none 0 0).bell with queue := List.replicate n triple }
    let faulted : State := withBell { Bell.initial with state := .faultedOpen }
    (∀ dest ∈ [0, 7], ∀ s ∈ [on, faulted, pausing 3, pausing 4], ∀ p ∈ [Pattern.triple, .continuous 1, .continuous 30],
      requestReady (asks dest 0x08#8 [p.byte] s) 60 dest 0x08#8 0x28#8 [p.byte] []) ∧
      4 ≤ (pausing 4).bell.queue.length ∧ (pausing 3).bell.queue.length < 4 ∧ (pausing 3).bell.sounder ≠ .quiet ∧
      on.bell.queue = [] ∧ on.bell.sounder = .quiet ∧ on.bell.state = .ready ∧ faulted.bell.queue = [] ∧
      faulted.bell.sounder = .quiet ∧ faulted.bell.state ≠ .ready ∧
      ∀ s ∈ [on, pausing 3], requestReady (asks 7 0x11#8 [] s) 60 7 0x11#8 0x28#8 [] [] := by
  unfold requestReady; decide +kernel

/-! ### The gate line -/

/-- The station with a frame at the head of its queue, idle for n character times. -/
def sends (n : Nat) : State :=
  { on with line := { on.line with tx := [{ payload := .punch inNotice, attempts := 0 }], idle := n } }

/-- The station in an attempt of its queue's head, a number of its characters done, a character on its way. -/
def sending (attempts done : Nat) : State :=
  { on with line := { on.line with
      tx := [{ payload := .punch inNotice, attempts := attempts }], receiving := true
      attempt := some { bytes := TxPayload.frame (.punch inNotice) on, done := done }
      assembly := if done = 0 then none else some ((TxPayload.frame (.punch inNotice) on).take done) } }

/-- A reply of no data. -/
def pong : Reply := { destination := 60, kind := 0x01#8, tag := 0x28#8, status := .done, data := [] }

/-- Each majority of two samples; an attempt at 4 character times, and none at 3; in an own attempt the end of a character time with a
confirmed start bit and without one, at the attempts 1, 15 and 16, of a notice and of a reply. -/
theorem witness_LineKeepsItsTime :
    running (sends 4) = true ∧ (sends 4).line.receiving = false ∧ (sends 4).line.attempt = none ∧
      4 + (sends 4).line.backoff ≤ (sends 4).line.idle ∧ (sends 3).line.idle < 4 + (sends 3).line.backoff ∧
      (cell false).s7 = false ∧ (cell false).s8 = false ∧ (cell true).s8 = true ∧ (cell true).s9 = true ∧
      ∀ n ∈ [1, 15, 16], ∀ seen ∈ [true, false], ∀ p ∈ [TxPayload.punch inNotice, .reply pong],
        let s : State := { sending n 1 with line := { (sending n 1).line with
          startSeen := seen, tx := [{ payload := p, attempts := n }] } }
        running s = true ∧ s.line.attempt = some { bytes := TxPayload.frame (.punch inNotice) on, done := 1 } ∧
          s.line.startSeen = seen ∧ s.line.tx = { payload := p, attempts := n } :: [] := by decide +kernel

/-- The station in HUNT or with a frame begun, a character on its way. -/
def assembling (begun : Option (List Byte)) : State := { on with line := { on.line with receiving := true, assembly := begun } }

/-- A head in HUNT; a framing error; a frame begun, cut off, of one byte, with the body lengths 56 and 57, before its last byte and
at it. -/
theorem witness_CharactersAreTaken_assembly :
    let frame := frameBytes .punch 3 0 inNotice.bytes
    (∀ b ∈ [none, some [0x01#8], some (frame.take 22), some (frame.take 23)],
      running (assembling b) = true ∧ (assembling b).line.receiving = true ∧ (assembling b).line.attempt = none ∧
        (assembling b).line.assembly = b) ∧
      receiveCells (cellsOf 0x01#8 true true) = .char 0x01#8 true ∧ receiveCells (cellsOf 0x01#8 true false) = .framingError ∧
      (∀ n ∈ [56#8, 57#8], receiveCells (cellsOf n false true) = .char n false ∧ ([0x01#8] ++ [n]).length = 2 ∧
        getByte ([0x01#8] ++ [n]) 1 = n) ∧
      frame.length = 24 ∧ (getByte frame 1).toNat = 18 ∧
      (∀ k ∈ [22, 23], receiveCells (cellsOf (getByte frame k) false true) = .char (getByte frame k) false ∧
        frame.take k ++ [getByte frame k] = frame.take (k + 1)) := by decide +kernel

/-- Whole frames: a check that fails, the own number, another's, a kind that is none, a length not permitted, a reply, one that is
buffered and one that finds 4. -/
theorem witness_CharactersAreTaken_frames :
    let test (bytes : List Byte) : Bool := decide (bytes.drop (bytes.length - 2) = crcBytes (bytes.take (bytes.length - 2)))
    let frame := frameBytes .punch 3 0 inNotice.bytes
    test frame = true ∧ test (frame.set 5 0xFF#8) = false ∧ test (frameBytes .punch 7 0 inNotice.bytes) = true ∧
      test (frameBytes .punch 3 8 inNotice.bytes) = true ∧ lengthPermitted .punch inNotice.bytes = true ∧
      lengthPermitted .beacon inNotice.bytes = false ∧ test (frameBytes .beacon 3 0 inNotice.bytes) = true ∧
      0x02#8 ∉ [0x01#8, 0x03#8, 0x07#8, 0x0F#8, 0x1F#8] ∧ lengthPermitted .reply (List.replicate 3 0#8) = true ∧
      on.settings.station = 7 ∧ on.line.rx.length < 4 := by decide +kernel

/-- In an own attempt: the first and the last character equal, one different, one unmarked, a framing error; attempts 1 and 16. -/
theorem witness_CharactersAreTaken :
    let bytes := TxPayload.frame (.punch inNotice) on
    bytes = frameBytes .punch 7 0 inNotice.bytes ∧ inNotice.bytes.length ≤ 56 ∧
      (∀ n ∈ [1, 16], ∀ k ∈ [0, 1, 23], let s := sending n k
        running s = true ∧ s.line.receiving = true ∧ k < bytes.length ∧ (0 < k → s.line.assembly = some (bytes.take k)) ∧
          s.line.attempt = some { bytes := bytes, done := k } ∧
          s.line.tx = { payload := .punch inNotice, attempts := n } :: [] ∧
          receiveCells (cellsOf (getByte bytes k) (decide (k = 0)) true) = .char (getByte bytes k) (decide (k = 0)) ∧
          receiveCells (cellsOf (getByte bytes k) (decide (k ≠ 0)) true) = .char (getByte bytes k) (decide (k ≠ 0)) ∧
          decide (k ≠ 0) ≠ decide (k = 0) ∧ 0xEE#8 ≠ getByte bytes k ∧
          receiveCells (cellsOf (getByte bytes k) false false) = .framingError) ∧
      bytes.length = 23 + 1 := by decide +kernel

/-- "A collision at the head", step 2: attempt 1 draws k from the lowest bit. -/
theorem test_collision_draws_k :
    let s := sending 1 0
    (after (.characterReceived (cellsOf 0x0F#8 true true)) { s with line := { s.line with generator := 7 } }).line.backoff = 1 := by
  decide +kernel

/-- A notice with every part, most of them at the greatest value of its layout. -/
def fullNotice : PunchNotice :=
  { outNotice with
    sequence := 65535, badge := 16777215, stamp := { week := 65535, minute := 65535, second := 255 }
    occurrence := some { code := 255, kind := .noShift, start := some 4294967294 }
    superseded := some { stamp := { week := 65535, minute := 65535, second := 255 }, station := 255 } }

/-- The station's beacon; RING notices at the limits of the layout; a notice with every part; the bytes of a stamp and of a start. -/
theorem witness_PunchNoticesReadBack :
    (on.settings.zone < 256 ∧ on.clock.stamp.fits ∧ on.roster.length < 65536) ∧
      (∀ r ∈ [ringOf5, { zone := 255, index := 255, week := 65535, day := 255, minute := 65535, pattern := .continuous 31 }],
        r.zone < 256 ∧ r.index < 256 ∧ r.week < 65536 ∧ r.day < 256 ∧ r.minute < 65536 ∧
          ∀ k, r.pattern = .continuous k → k < 32) ∧
      fullNotice.sequence < 65536 ∧ fullNotice.badge < 16777216 ∧ fullNotice.stamp.fits ∧
      (∀ o, fullNotice.occurrence = some o → o.fits) ∧ (∀ k, fullNotice.superseded = some k → k.fits) ∧
      (∀ r, fullNotice.result = some r → r.fits) ∧
      (∀ a, putStamp a = put2 a.week ++ put2 a.minute ++ put1 a.second) ∧ putOptAbs none = [0xFF#8, 0xFF#8, 0xFF#8, 0xFF#8] ∧
      ∀ a, putOptAbs (some a) = put4 a := by
  unfold PayResult.fits Occurrence.fits PunchKey.fits Stamp.fits optAbsFits
  refine ⟨by decide, fun r hr => ?_, by decide, by decide, by decide, ?_, ?_, ?_, fun _ => rfl, by decide, fun _ => rfl⟩
  · simp only [List.mem_cons, List.not_mem_nil, or_false] at hr
    rcases hr with rfl | rfl
    · exact ⟨by decide, by decide, by decide, by decide, by decide, by rintro k ⟨⟩⟩
    · exact ⟨by decide, by decide, by decide, by decide, by decide, by rintro k ⟨⟩; decide⟩
  · rintro o ⟨⟩; exact ⟨by decide, by rintro n ⟨⟩; decide⟩
  · rintro k ⟨⟩; decide
  · rintro r ⟨⟩; exact ⟨by decide, by rintro n ⟨⟩; decide, by decide⟩

/-- The frame of a PUNCH of 18 bytes to all stations, and that of a REQUEST of the longest body to station 7. -/
theorem witness_SentFramesAreHeard :
    (∀ q ∈ [(FrameKind.punch, 3, 0, inNotice.bytes), (.request, 60, 7, List.replicate 56 0#8)],
      q.1 ≠ .reply ∧ q.2.1 < 256 ∧ q.2.2.1 < 256 ∧ q.2.1 ≠ on.settings.station ∧
        (q.2.2.1 = 0 ∨ q.2.2.1 = on.settings.station) ∧ lengthPermitted q.1 q.2.2.2 = true ∧ q.2.2.2.length ≤ 56 ∧
        on.line.assembly = none ∧ on.line.rx.length < 4) ∧
      ∀ kind source dest body, ∃ head tail, frameBytes kind source dest body = head :: tail :=
  ⟨by decide +kernel, fun _ _ _ _ => ⟨_, _, rfl⟩⟩

/-! ### Requests and the panel -/

/-- A Set Message at the indexes 1 and 8; a Restart with room and with a full queue; requests from stations 55, 56, 63 and 64 with the
codes next to the sixteen, broadcast and addressed, with a Restart pending and without. -/
theorem witness_MessagesRestartsAndStrangers :
    (∀ index ∈ [1, 8], requestReady (asks 7 0x06#8 (put1 index ++ spaces) on) 60 7 0x06#8 0x28#8 (put1 index ++ spaces) []) ∧
      spaces.length = 16 ∧ (∀ s ∈ [on, beacons 16 .beacon], requestReady (asks 7 0x16#8 [] s) 60 7 0x16#8 0x28#8 [] []) ∧
      on.line.tx.length + on.line.reserved < 16 ∧
      16 ≤ (beacons 16 .beacon).line.tx.length + (beacons 16 .beacon).line.reserved ∧
      (∀ code ∈ [0x00#8, 0x0A#8, 0x0F#8, 0x17#8, 0xFF#8], code = 0 ∨ (0x09#8 < code ∧ code < 0x10#8) ∨ 0x16#8 < code) ∧
      ∀ source ∈ [55, 56, 63, 64], ∀ dest ∈ [0, 7], ∀ code ∈ [0x00#8, 0x0A#8, 0x17#8], ∀ r ∈ [RestartState.none, .pending],
        let f := requestFrame source dest code 0x28#8 []
        let s : State := { hears f on with restart := r }
        running s = true ∧ s.line.rx = f :: [] ∧ f.kind = .request ∧ s.restart = r ∧ getByte f.body 0 = code ∧
          ((f.source < 56 ∨ 63 < f.source) ∨ (56 ≤ f.source ∧ f.source ≤ 63)) := by
  unfold requestReady; decide +kernel

/-- Each kind with a parameter too many; parameters of the right length one below and one above a range of each. -/
theorem witness_MessagesRestartsAndStrangers_tests :
    (∀ row ∈ requestRows, ∀ dest ∈ [0, 7], let params : List Byte := List.replicate (row.length + 1) 0
      running on = true ∧ (asks dest row.code params on).line.rx = requestFrame 60 dest row.code 0x28#8 params :: [] ∧
        params.length ≠ row.length ∧ (dest ≠ 0 ∨ row.broadcast = true ∨ row.broadcast = false)) ∧
      ∀ q ∈ [(0x02#8, put3 0), (0x12#8, put3 16777215), (0x01#8, put3 1 ++ put1 13 ++ put1 0),
             (0x01#8, put3 1 ++ put1 0 ++ put1 8), (0x05#8, put3 1 ++ put1 9), (0x06#8, put1 0 ++ spaces),
             (0x06#8, put1 9 ++ spaces), (0x07#8, put2 0 ++ put2 10080 ++ put1 0), (0x07#8, put2 0 ++ put2 0 ++ put1 60),
             (0x08#8, [0xC0#8]), (0x08#8, [0xDF#8]), (0x08#8, [0x01#8]), (0x13#8, put1 2 ++ put1 0 ++ put3 0),
             (0x13#8, put1 0 ++ put1 2 ++ put3 0), (0x15#8, put1 3 ++ put1 0)],
        paramsOutOfRange q.1 q.2 := by
  unfold paramsOutOfRange; decide +kernel

/-- Each reading request, at the least and the greatest of its parameters. -/
theorem witness_ReadingRequestsReport :
    (∀ badge ∈ [1, 16777214], requestReady (asks 7 0x12#8 (put3 badge) on) 60 7 0x12#8 0x28#8 (put3 badge) [] ∧
      on.record badge = none) ∧
      (requestReady (asks 7 0x12#8 (put3 40117) (withRoster [worker] on)) 60 7 0x12#8 0x28#8 (put3 40117) [] ∧
        (withRoster [worker] on).record 40117 = some worker) ∧
      (∀ b ∈ [0, 1], ∀ start ∈ [0, 16777215], let p := put1 b ++ put1 b ++ put3 start
        requestReady (asks 7 0x13#8 p on) 60 7 0x13#8 0x28#8 p []) ∧
      (∀ q ∈ [0, 65535], requestReady (asks 7 0x14#8 (put2 q) on) 60 7 0x14#8 0x28#8 (put2 q) []) ∧
      ∀ part ∈ [0, 1, 2], ∀ index ∈ [0, 255], let p := put1 part ++ put1 index
        requestReady (asks 7 0x15#8 p on) 60 7 0x15#8 0x28#8 p [] := by
  unfold requestReady; decide +kernel

/-- The station with an overlay of 3 seconds that has run out, over a saved text, and a transfer. -/
def overlaidRow (row1 : List Byte) (transfer : Option Transfer) : State :=
  { on with panel := { on.panel with row1 := row1, transfer := transfer, overlay := (some
      { saved := cfg.idleText, timer := { start := 97000, duration := 3000 } }) } }

/-- Another text with the link free and busy, the same text; transfers with each mark. -/
theorem witness_PanelReturnsAndSends :
    let going : Transfer := { row := .one, codes := spaces }
    let marks (m1 m2 : Bool) : State := { on with panel := { on.panel with mark1 := m1, mark2 := m2, transfer := some going } }
    (∀ s ∈ [overlaidRow spaces none, overlaidRow spaces (some going), overlaidRow cfg.idleText none],
      panelRuns s = true ∧ s.panel.overlay = some { saved := cfg.idleText, timer := { start := 97000, duration := 3000 } } ∧
        3000 ≤ elapsedSince s.now 97000) ∧
      spaces ≠ cfg.idleText ∧
      ∀ s ∈ [marks true true, marks false true, marks false false], panelRuns s = true ∧ s.panel.transfer.isSome = true ∧
        (s.panel.mark1 = true ∨ s.panel.mark1 = false ∧ s.panel.mark2 = true ∨ s.panel.mark1 = false ∧ s.panel.mark2 = false) := by
  decide +kernel

/-! ### Invariants: states that meet them, with a step that changes them -/

/-- A door opening at the commit of a pending punch. -/
def committing : State := { withRoster [workerIn] (released (pends .exit .isIn)) with pending := [.doorOpens] }

theorem witness_TransmitQueueIsKept :
    transmitQueueHolds committing ∧ step committing = .next (after .doorOpens { committing with pending := [] }) := by
  refine ⟨⟨by decide +kernel, by decide +kernel, ?_⟩, rfl⟩
  rintro p ⟨⟩
  exact ⟨fun _ => rfl, rfl, .inl rfl⟩

theorem witness_RosterIsKept :
    rosterHolds committing ∧ step committing = .next (after .doorOpens { committing with pending := [] }) := by
  refine ⟨⟨by decide +kernel, by decide +kernel, ?_, ?_⟩, rfl⟩
  · intro x hx
    obtain rfl : x = workerIn := by simpa [committing, withRoster] using hx
    exact
      { badge := by decide +kernel, shiftCode := by decide +kernel, rateClass := by decide +kernel, presence := by decide +kernel
        acc := by rintro a ⟨⟩; unfold Accumulator.inRange; decide +kernel
        keys := by decide +kernel
        message := by rintro m ⟨⟩
        tags := by decide +kernel, collected := by decide +kernel
        current := by unfold WeekSlot.inRange; decide +kernel
        previous := by unfold WeekSlot.inRange; decide +kernel }
  · unfold Clock.inRange; decide +kernel

/-- A journal of one entry. -/
def journaled : State := { after .doorOpens (atDoor .idle true) with pending := [.coldStart] }

theorem witness_JournalIsKept : journalHolds journaled ∧ step journaled = .next (after .coldStart { journaled with pending := [] }) := by
  refine ⟨⟨by decide +kernel, by decide +kernel, ?_, ?_⟩, rfl⟩
  · exact ⟨by decide +kernel, trivial⟩
  · unfold JournalEntry.holds; decide +kernel

/-- The commit's state with its release timer running. -/
def capable : State := { committing with gate := { committing.gate with releaseTimer := some { start := 99000, duration := 6000 } } }

theorem witness_CapacitiesAreKept :
    capacitiesHold capable ∧ step capable = .next (after .doorOpens { capable with pending := [] }) := by
  refine ⟨?_, rfl⟩
  constructor <;> (try unfold suppressionHolds) <;> decide +kernel

/-- An entry into BACKUP, and a return from one. -/
theorem witness_BackupStaysQuiet :
    quietWithoutMain { committing with pending := [.backupEntry] } ∧
      (after .backupEntry committing).starts.supply ≠ .main ∧ quietWithoutMain (after .backupEntry committing) := by
  refine ⟨fun h => absurd rfl h, by decide +kernel, fun _ => ?_⟩
  constructor <;> decide +kernel

end Sys2Proof.Tests
end

/-! PROOFS. The decision of the waiting queue's head: when it takes place and what a refusal leaves (R51, R54). -/

namespace Sys2Proof.Machine

theorem Cycle.decides_iff (c : Cycle) : c.decides = true ↔ c = .idle ∨ c = .free := by
  simp [Cycle.decides]

/-- R145: a slot of the transmit queue is free while frames and reservations together are fewer than 16. -/
theorem one_le_txSpace_iff (s : State) : 1 ≤ txSpace s ↔ s.line.tx.length + s.line.reserved < 16 := by
  simp only [txSpace, Config.txMax]
  omega

/-- R51: the head is decided at a running station, in IDLE and FREE, with a free slot of the transmit queue. -/
theorem mayDecide_iff (s : State) :
    mayDecide s = true ↔
      running s = true ∧ (s.gate.cycle = .idle ∨ s.gate.cycle = .free) ∧ s.line.tx.length + s.line.reserved < 16 := by
  simp [mayDecide, Cycle.decides_iff, one_le_txSpace_iff, and_assoc]

/-- R53: a head that may be decided leaves the queue, its decision takes effect, and the next head is tested. -/
theorem exec_decideHead_of_mayDecide (s : State) (w : WaitEntry) (rest : List WaitEntry) (hw : s.waiting = w :: rest)
    (h : mayDecide s = true) :
    exec .decideHead s = .next (testHead (applyDecision (decisionOf s w) w { s with waiting := rest })) := by
  have he : exec .decideHead s = .next (decideHead s) := rfl
  simp [he, decideHead, hw, h]

/-- Settles O32: the refusal takes effect on the state without its head, which differs from `s` in the waiting queue alone. -/
theorem refusalAtDecision : Obligations.RefusalAtDecision := by
  intro s w rest reason hrun hw hcycle hspace hdecision
  have hexec := exec_decideHead_of_mayDecide s w rest hw ((mayDecide_iff s).2 ⟨hrun, hcycle, hspace⟩)
  rw [hdecision] at hexec
  obtain ⟨hrefused, hlisted, -⟩ := refuseRead_refusedAt w.reader w.badge reason { s with waiting := rest } hrun
  obtain ⟨j, k, p, e, x, hframe⟩ := refuseRead_changes w.reader w.badge reason { s with waiting := rest }
  exact ⟨refuseRead w.reader w.badge reason { s with waiting := rest }, hexec, hrefused, hlisted, by rw [hframe]⟩

end Sys2Proof.Machine

/-! PROOFS. The rounding of a punch to the shift's grid (R92, R93). -/

namespace Sys2Proof.Machine

/-- Whole units whose total is at or below `d` minutes are those up to the quotient: `unitsDown` is the greatest such total. -/
theorem le_unitCount_iff (u : Nat) (hu : 0 < u) (d j : Int) : j ≤ d / u ↔ j * u ≤ d :=
  Int.le_ediv_iff_mul_le (by exact_mod_cast hu)

/-- Whole units whose total is at or above `d` minutes are those from the negated quotient of `-d`: `unitsUp` is the least such
total. -/
theorem unitCount_le_iff (u : Nat) (hu : 0 < u) (d j : Int) : -(-d / u) ≤ j ↔ d ≤ j * u := by
  rw [neg_le, le_unitCount_iff u hu, neg_mul, neg_le_neg_iff]

theorem unitsUp_eq (u : Nat) (d : Int) : unitsUp u d = -(-d / u) * u := by
  rw [unitsUp, neg_mul]

theorem unitsUp_mul_unit (u : Nat) (hu : 0 < u) (j : Int) : unitsUp u (j * u) = j * u := by
  rw [unitsUp, ← neg_mul j, Int.mul_ediv_cancel _ (by exact_mod_cast hu.ne'), neg_mul, neg_neg]

theorem effectiveIn_scheduled (e : ShiftEntry) (start m : Nat) :
    effectiveIn e .scheduled (some start) m =
      if -(e.earlyIn : Int) ≤ absDiff m start ∧ absDiff m start ≤ e.lateGrace then start
      else absAdd start (unitsUp e.unit (absDiff m start)) := rfl

theorem effectiveOut_scheduled (e : ShiftEntry) (start m : Nat) :
    effectiveOut e .scheduled (some start) m =
      if -(e.earlyLeave : Int) ≤ absDiff m (absAdd start e.length) ∧ absDiff m (absAdd start e.length) ≤ e.lateOut then
        absAdd start e.length
      else absAdd start (unitsDown e.unit (absDiff m start)) := rfl

/-- R92: an in punch of an OFF DAY, or outside the window round the start, is raised to the grid. -/
theorem effectiveIn_onGrid (e : ShiftEntry) (kind : OccKind) (start m : Nat)
    (h : kind = .offDay ∨
      (kind = .scheduled ∧ (absDiff m start < -(e.earlyIn : Int) ∨ (e.lateGrace : Int) < absDiff m start))) :
    effectiveIn e kind (some start) m = absAdd start (unitsUp e.unit (absDiff m start)) := by
  obtain rfl | ⟨rfl, hout⟩ := h
  · rfl
  · rw [effectiveIn_scheduled, if_neg (by omega)]

/-- R93: an out punch of an OFF DAY, or outside the window round the end, is lowered to the grid. -/
theorem effectiveOut_onGrid (e : ShiftEntry) (kind : OccKind) (start m : Nat)
    (h : kind = .offDay ∨
      (kind = .scheduled ∧ (absDiff m (absAdd start e.length) < -(e.earlyLeave : Int) ∨
        (e.lateOut : Int) < absDiff m (absAdd start e.length)))) :
    effectiveOut e kind (some start) m = absAdd start (unitsDown e.unit (absDiff m start)) := by
  obtain rfl | ⟨rfl, hout⟩ := h
  · rfl
  · rw [effectiveOut_scheduled, if_neg (by omega)]

/-- Settles O42: outside the windows the counts of units are the quotients of `unitCount_le_iff` and `le_unitCount_iff`. -/
theorem punchesAreRounded : Obligations.PunchesAreRounded := by
  intro e start m hunit hm _
  refine ⟨⟨fun _ => rfl, fun _ => rfl⟩, fun hlow hhigh => ?_, fun hlow hhigh => ?_, fun kind hkind => ?_, fun kind hkind => ?_⟩
  · rw [effectiveIn_scheduled, if_pos ⟨hlow, hhigh⟩]
  · rw [effectiveOut_scheduled, if_pos ⟨hlow, hhigh⟩]
  · have hcount := unitCount_le_iff e.unit hunit (absDiff m start)
    rw [effectiveIn_onGrid e kind start m hkind]
    refine ⟨-(-absDiff m start / e.unit), by rw [unitsUp_eq], (hcount _).1 le_rfl, fun j => (hcount j).2, fun j hj => ?_⟩
    rw [hj, unitsUp_mul_unit e.unit hunit, ← hj, absAdd_absDiff m start hm]
  · have hcount := le_unitCount_iff e.unit hunit (absDiff m start)
    rw [effectiveOut_onGrid e kind start m hkind]
    exact ⟨absDiff m start / e.unit, rfl, (hcount _).1 le_rfl, fun j => (hcount j).2⟩

end Sys2Proof.Machine

/-! PROOFS. The choice of the occurrence: every candidate start lies a known number of minutes from the in-minute (R89, R90). -/

namespace Sys2Proof.Machine

theorem absAdd_absAdd (a : Nat) (j k : Int) : absAdd (absAdd a j) k = absAdd a (j + k) := by
  obtain ⟨-, p, hp⟩ := absAdd_spec a j
  obtain ⟨hlt, q, hq⟩ := absAdd_spec a (j + k)
  exact absAdd_unique _ _ _ (q - p) hlt (by linarith)

/-- R5: two minutes reached from one minute differ by their offsets, while those are less than half the modulus apart. -/
theorem absDiff_absAdd_absAdd (a : Nat) (j k : Int) (h1 : -330301440 ≤ j - k) (h2 : j - k < 330301440) :
    absDiff (absAdd a j) (absAdd a k) = j - k := by
  obtain ⟨-, p, hp⟩ := absAdd_spec a j
  obtain ⟨-, q, hq⟩ := absAdd_spec a k
  exact absDiff_unique _ _ _ (q - p) h1 h2 (by linarith)

theorem minutesApart_absAdd (m : Nat) (k : Int) (h1 : -330301440 < k) (h2 : k ≤ 330301440) :
    minutesApart m (absAdd m k) = k.natAbs := by
  obtain ⟨-, q, hq⟩ := absAdd_spec m k
  rw [minutesApart, absDiff_unique m (absAdd m k) (-k) q (by omega) (by omega) (by linarith), Int.natAbs_neg]

/-- R88: the in-minute, with the model's constants and its sum written out. -/
theorem inMinute_eq (stamp : Stamp) :
    inMinute stamp = (stamp.abs + (if stamp.second = 0 then 0 else 1)) % 660602880 := by
  simp only [inMinute, absAdd, Config.absModulus]
  split <;> omega

/-- R89: of two starts near a minute, the one with the smaller offset without its sign; the second when they are equally near. -/
theorem nearer_absAdd (m : Nat) (j k : Int) (hj : -4320 ≤ j ∧ j ≤ 4320) (hk : -4320 ≤ k ∧ k ≤ 4320) :
    nearer m (absAdd m j) (absAdd m k) = absAdd m (if k.natAbs ≤ j.natAbs then k else j) := by
  have hdist (i : Int) (hi : -4320 ≤ i ∧ i ≤ 4320) : distance m (absAdd m i) = i.natAbs :=
    minutesApart_absAdd m i (by omega) (by omega)
  rw [nearer, hdist j hj, hdist k hk, apply_ite (absAdd m)]

/-- R89: the start chosen is the one candidate from 719 minutes before the in-minute to 720 minutes after it. -/
theorem nearestStart_offset (m start : Nat) (hs : start < 1440) :
    ∃ d : Int, nearestStart m start = absAdd m d ∧ -720 < d ∧ d ≤ 720 ∧
      (d = -((m % 10080 % 1440 : Nat) : Int) + start ∨ d = -((m % 10080 % 1440 : Nat) : Int) + (start - 1440) ∨
        d = -((m % 10080 % 1440 : Nat) : Int) + (start + 1440)) := by
  have hday : absMinuteOfDay m = m % 10080 % 1440 := rfl
  have hp : m % 10080 % 1440 < 1440 := Nat.mod_lt _ (by omega)
  simp only [nearestStart, absAdd_absAdd, hday, Config.minutesPerDay]
  generalize m % 10080 % 1440 = p at hp ⊢
  rw [nearer_absAdd m _ _ (by omega) (by omega), nearer_absAdd m _ _ (by split <;> omega) (by omega)]
  refine ⟨_, rfl, ?_⟩
  split_ifs <;> omega

/-- Settles O43: with every candidate as an offset from the in-minute, the chosen offset is that of `nearestStart_offset`. -/
theorem occurrenceIsTheNearestStart : Obligations.OccurrenceIsTheNearestStart := by
  intro c code stamp
  refine ⟨fun hcode => by rw [chooseOccurrence, if_pos hcode], fun hcode hs => ?_⟩
  have hchoice : chooseOccurrence c code stamp =
      { code := code, kind := kindOfStart (c.shift code) (nearestStart (inMinute stamp) (c.shift code).start),
        start := some (nearestStart (inMinute stamp) (c.shift code).start) } := by
    rw [chooseOccurrence, if_neg hcode]
  rw [hchoice]
  refine ⟨nearestStart (inMinute stamp) (c.shift code).start, rfl, rfl, rfl, fun m begins hm hbegins => ?_⟩
  rw [← inMinute_eq] at hm
  subst hm hbegins
  obtain ⟨d, hstart, hlow, hhigh, hcandidate⟩ := nearestStart_offset (inMinute stamp) (c.shift code).start hs
  have hp : inMinute stamp % 10080 % 1440 < 1440 := Nat.mod_lt _ (by omega)
  simp only [hstart, absAdd_absAdd]
  generalize inMinute stamp % 10080 % 1440 = p at hp hcandidate ⊢
  rw [minutesApart_absAdd _ d (by omega) (by omega)]
  refine ⟨hcandidate.imp (congrArg _) (Or.imp (congrArg _) (congrArg _)), by omega, fun k hk => ?_⟩
  simp only [List.mem_cons, List.not_mem_nil, or_false] at hk
  rw [minutesApart_absAdd _ (-p + k) (by omega) (by omega), absDiff_absAdd_absAdd _ d (-p + k) (by omega) (by omega)]
  omega

end Sys2Proof.Machine

/-! PROOFS. The sums of a week slot: crediting one more result keeps them (R107, R108). -/

namespace Sys2Proof.Machine

/-- R108: a figure held at its maximum before and after a further amount is its whole sum held there. -/
theorem min_min_add (m a b : Nat) : min m (min m a + b) = min m (a + b) := by
  omega

/-- R108: a sum exceeds the maximum after a further amount when it did before, or when the held figure and the amount do. -/
theorem lt_add_iff_held (m a b : Nat) : m < a + b ↔ m < a ∨ m < min m a + b := by
  omega

/-- R108: one more field joins a list of fields of which one exceeds its maximum. -/
theorem lt_add_or_iff_held {m a b : Nat} {after before now : Prop} (h : after ↔ before ∨ now) :
    m < a + b ∨ after ↔ (m < a ∨ before) ∨ (m < min m a + b ∨ now) := by
  rw [lt_add_iff_held, h, or_or_or_comm]

/-- R108: the slot that holds the sums of a list of results; `WeekSlot.foldl_credit` ties it to the crediting. -/
def WeekSlot.heldSums (tag : Nat) (rs : List PayResult) : WeekSlot :=
  { tag := tag
    regular := min minutesMax (rs.map PayResult.regular).sum
    ot1 := min minutesMax (rs.map PayResult.ot1).sum
    ot2 := min minutesMax (rs.map PayResult.ot2).sum
    night := min minutesMax (rs.map PayResult.night).sum
    credits := min creditsMax (rs.map PayResult.credits).sum
    pay := min payMax (rs.map PayResult.pay).sum
    intervals := min intervalsMax rs.length
    saturated :=
      decide (minutesMax < (rs.map PayResult.regular).sum ∨ minutesMax < (rs.map PayResult.ot1).sum ∨
        minutesMax < (rs.map PayResult.ot2).sum ∨ minutesMax < (rs.map PayResult.night).sum ∨
        creditsMax < (rs.map PayResult.credits).sum ∨ payMax < (rs.map PayResult.pay).sum ∨ intervalsMax < rs.length)
    unpairedSeen := false
    abandonedSeen := false
    collected := false }

theorem WeekSlot.heldSums_nil (tag : Nat) : WeekSlot.heldSums tag [] = WeekSlot.emptyWith tag := by
  simp [WeekSlot.heldSums, WeekSlot.emptyWith]

theorem overflows_iff (w : WeekSlot) (r : PayResult) :
    overflows w r = true ↔
      minutesMax < w.regular + r.regular ∨ minutesMax < w.ot1 + r.ot1 ∨ minutesMax < w.ot2 + r.ot2 ∨
        minutesMax < w.night + r.night ∨ creditsMax < w.credits + r.credits ∨ payMax < w.pay + r.pay ∨
        intervalsMax < w.intervals + 1 := by
  simp [overflows, or_assoc]

/-- R108: SATURATED after one more result is SATURATED before it or an overflow at its crediting, field by field. -/
theorem WeekSlot.saturated_heldSums_snoc (tag : Nat) (rs : List PayResult) (r : PayResult) :
    (WeekSlot.heldSums tag (rs ++ [r])).saturated =
      ((WeekSlot.heldSums tag rs).saturated || overflows (WeekSlot.heldSums tag rs) r) := by
  rw [Bool.eq_iff_iff, Bool.or_eq_true, overflows_iff]
  simp only [WeekSlot.heldSums, decide_eq_true_eq, List.map_append, List.map_cons, List.map_nil, List.sum_append,
    List.sum_singleton, List.length_append, List.length_singleton]
  exact lt_add_or_iff_held (lt_add_or_iff_held (lt_add_or_iff_held (lt_add_or_iff_held (lt_add_or_iff_held
    (lt_add_or_iff_held (lt_add_iff_held ..))))))

/-- R108: a slot that holds the sums of some results holds, once another is credited, the sums with that one. -/
theorem WeekSlot.credit_heldSums (tag : Nat) (rs : List PayResult) (r : PayResult) :
    (WeekSlot.heldSums tag rs).credit r = WeekSlot.heldSums tag (rs ++ [r]) := by
  have hsaturated := WeekSlot.saturated_heldSums_snoc tag rs r
  simp only [WeekSlot.credit, ← hsaturated]
  simp [WeekSlot.heldSums, min_min_add]

theorem WeekSlot.foldl_credit (tag : Nat) (rs : List PayResult) :
    rs.foldl WeekSlot.credit (WeekSlot.emptyWith tag) = WeekSlot.heldSums tag rs := by
  induction rs using List.reverseRecOn with
  | nil => exact (WeekSlot.heldSums_nil tag).symm
  | append_singleton rs r ih => rw [List.foldl_append, ih, List.foldl_cons, List.foldl_nil, WeekSlot.credit_heldSums]

/-- Settles O25, by induction on the results from the last one credited. -/
theorem weekSlotHoldsItsSums : Obligations.WeekSlotHoldsItsSums :=
  WeekSlot.foldl_credit

end Sys2Proof.Machine

/-! PROOFS. Week Collected at the head of the receive buffer (R116). -/

namespace Sys2Proof.Machine

theorem collects_iff (week : Nat) (x : Record) : collects week x = true ↔ x.previous.tag = week := by
  simp [collects]

/-- R116: COLLECTED is set where the PREVIOUS slot has the week; any other record stays as it was. -/
theorem markCollected_eq (week : Nat) (x : Record) :
    markCollected week x =
      if x.previous.tag = week then { x with previous := { x.previous with collected := true } } else x := by
  simp only [markCollected, collects_iff]

theorem collectWeek_of_mem (week : Nat) (s : State) (h : ∃ x ∈ s.roster, x.previous.tag = week) :
    collectWeek week s = ({ s with roster := s.roster.map (markCollected week) }, .done) := by
  simp only [← collects_iff, ← List.any_eq_true] at h
  rw [collectWeek, if_pos h]

theorem collectWeek_of_not_mem (week : Nat) (s : State) (h : ∀ x ∈ s.roster, x.previous.tag ≠ week) :
    collectWeek week s = ({ s with roster := s.roster.map (markCollected week) }, .noRecord) := by
  simp only [ne_eq, ← collects_iff, ← List.any_eq_false] at h
  rw [collectWeek, h, if_neg Bool.false_ne_true]

/-- R116, R153: a ready Week Collected is answered as the collection of its week ends, on the state without its frame. -/
theorem exec_weekCollected_ready (s : State) (office dest : Nat) (tag : Byte) (week : Nat) (rest : List RxFrame)
    (hweek : week < 65536) (hready : requestReady s office dest 0x09#8 tag (put2 week) rest) :
    exec .weekCollected s =
      .next (answered office dest 0x09#8 tag (collectWeek week (taken s rest)).2 [] (collectWeek week (taken s rest)).1) := by
  have hserve : exec .weekCollected s = .next (serve weekCollectedKind s) := rfl
  have hparam : Machine.get (put2 week) 0 2 = week := get_put2 week hweek []
  rw [hserve, serve_ready weekCollectedKind s office dest 0x09#8 tag (put2 week) rest hready rfl rfl rfl (.inr rfl)]
  simp only [weekCollectedKind, answer, sendAnswer_answered, hparam]

/-- Settles O22: both answers come with the roster marked record by record. -/
theorem weekCollectedMarksPreviousSlots : Obligations.WeekCollectedMarksPreviousSlots := by
  intro s office dest tag week rest hweek hready
  have hexec := exec_weekCollected_ready s office dest tag week rest hweek hready
  have hmark := funext (markCollected_eq week)
  refine ⟨_, rfl, fun hsome => ?_, fun hnone => ?_⟩
  · rw [hexec, collectWeek_of_mem week (taken s rest) hsome, hmark]
    rfl
  · rw [hexec, collectWeek_of_not_mem week (taken s rest) hnone, hmark]
    rfl

end Sys2Proof.Machine

/-! PROOFS. What a command can do to the station: a sequence of changes of one field each, every one within its field's capacities and
ranges. Each invariant is derived from the changes alone. -/

namespace Sys2Proof.Machine

/-! ### The parts of the invariants, field by field -/

/-- "Counters": every counter within 65,535, index 18 at 0. -/
def countersHold (x : Counters) : Prop := (∀ i : Fin 38, x.get i ≤ Config.counterMax) ∧ x.get 18 = 0

/-- R16: the peer table's length and stations. -/
def peersHold (l : List Peer) : Prop := l.length ≤ Config.peerMax ∧ (l.map Peer.station).Nodup

/-- R68: the two gate timers run exactly in RELEASED and PASSING. -/
def Gate.timersHold (g : Gate) : Prop :=
  (g.releaseTimer.isSome = true ↔ g.cycle = .released) ∧ (g.holdTimer.isSome = true ↔ g.cycle = .passing)

/-- R145: the frames and reservations of a line. -/
def Line.held (l : Line) : Nat := l.tx.length + l.reserved

theorem journalHolds_congr {s t : State} (h : t.journal = s.journal) : journalHolds t ↔ journalHolds s := by
  simp only [journalHolds, h]

theorem rosterHolds_congr {s t : State} (h : t.roster = s.roster) (hc : t.clock = s.clock) : rosterHolds t ↔ rosterHolds s := by
  simp only [rosterHolds, h, hc]

/-! ### The changes -/

/-- One change of the station. A change of level 0 leaves the release cycle, the starts, the pending punch and the reservations as
they are; one of level 1 the pending punch, the reservations and the supply; one of level 2 the supply. -/
inductive Change (k : Nat) (s : State) : State → Prop
  | timebase (x : Timebase) : Change k s { s with timebase := x }
  | clock (x : Clock) (h : s.clock.inRange → x.inRange) : Change k s { s with clock := x }
  | announcements (x : List Advance) : Change k s { s with announcements := x }
  | peers (x : PeerTable) (h : peersHold s.peers.entries → peersHold x.entries) : Change k s { s with peers := x }
  | roster (x : List Record) (h : rosterHolds s → rosterHolds { s with roster := x }) : Change k s { s with roster := x }
  | channel (r : Reader) (x : Channel) (h : suppressionHolds (s.channel r).suppression → suppressionHolds x.suppression) :
    Change k s (s.setChannel r x)
  | waiting (x : List WaitEntry) (h : s.waiting.length ≤ 4 → x.length ≤ 4) : Change k s { s with waiting := x }
  | inputs (x : Gate) (hc : x.cycle = s.gate.cycle) (hr : x.releaseTimer = s.gate.releaseTimer)
    (hh : x.holdTimer = s.gate.holdTimer) : Change k s { s with gate := x }
  | settings (x : Settings) : Change k s { s with settings := x }
  | bell (x : Bell) (h : s.bell.queue.length ≤ 4 → x.queue.length ≤ 4) : Change k s { s with bell := x }
  | line (x : Line) (hr : x.reserved = s.line.reserved) (ht : s.line.held ≤ 16 → x.held ≤ 16)
    (hx : s.line.rx.length ≤ 4 → x.rx.length ≤ 4) : Change k s { s with line := x }
  | restart (x : RestartState) : Change k s { s with restart := x }
  | journal (x : Journal) (h : journalHolds s → journalHolds { s with journal := x }) : Change k s { s with journal := x }
  | panel (x : Panel) : Change k s { s with panel := x }
  | counters (x : Counters) (h : countersHold s.counters → countersHold x) : Change k s { s with counters := x }
  | gate (hk : 1 ≤ k) (x : Gate) (h : s.gate.timersHold → x.timersHold) : Change k s { s with gate := x }
  | pendingPunch (hk : 2 ≤ k) (x : Option PendingPunch) : Change k s { s with pendingPunch := x }
  | reservations (hk : 2 ≤ k) (x : Line) (hx : s.line.rx.length ≤ 4 → x.rx.length ≤ 4) : Change k s { s with line := x }
  | starts (hk : 1 ≤ k) (x : Starts) (h : x.supply = s.starts.supply) : Change k s { s with starts := x }
  | supply (hk : 3 ≤ k) (x : Starts) : Change k s { s with starts := x }
  | blank (hk : 3 ≤ k) (x : Starts) : Change k s { State.reset with starts := x, pending := s.pending }

/-- One change after another. -/
def Evolves (k : Nat) : State → State → Prop := Relation.ReflTransGen (Change k)

theorem Evolves.refl {k : Nat} {s : State} : Evolves k s s := Relation.ReflTransGen.refl

theorem Evolves.trans {k : Nat} {s t u : State} (h : Evolves k s t) (g : Evolves k t u) : Evolves k s u :=
  Relation.ReflTransGen.trans h g

theorem Change.evolves {k : Nat} {s t : State} (h : Change k s t) : Evolves k s t := Relation.ReflTransGen.single h

/-- What was done last, after what was done before it. -/
theorem Evolves.after {k : Nat} {s t u : State} (g : Evolves k t u) (h : Evolves k s t) : Evolves k s u := h.trans g

/-- A property that every change keeps is kept by what a command does. -/
theorem Evolves.keeps {k : Nat} {P : State → Prop} (hP : ∀ s t, P s → Change k s t → P t) {s t : State} (h : Evolves k s t)
    (hs : P s) : P t := by
  induction h with
  | refl => exact hs
  | tail _ hc ih => exact hP _ _ ih hc

theorem evolves_ite {k : Nat} {c : Prop} [Decidable c] {s t u : State} (ht : c → Evolves k s t) (hu : ¬c → Evolves k s u) :
    Evolves k s (if c then t else u) := by
  split
  · exact ht ‹_›
  · exact hu ‹_›

variable {k : Nat}

/-- A fold of operations each of which is a sequence of changes is one. -/
theorem foldl_evolves {α : Type} (f : State → α → State) (hf : ∀ s a, Evolves k s (f s a)) (l : List α) (s : State) :
    Evolves k s (l.foldl f s) := by
  induction l generalizing s with
  | nil => exact .refl
  | cons a rest ih => exact (hf s a).trans (ih _)

/-! ### Counters, channels, journal, panel -/

theorem countersHold_set (c : Counter) (n : Nat) (x : Counters) (h : countersHold x) :
    countersHold (x.set c.index.val (min Config.counterMax n) c.index.isLt) := by
  have hne : c.index.val ≠ 18 := by cases c <;> decide
  refine ⟨fun i => ?_, ?_⟩
  · change (x.set c.index.val _ c.index.isLt)[i.val]'i.isLt ≤ _
    rw [Vector.getElem_set]
    split
    · exact Nat.min_le_left ..
    · exact h.1 i
  · change (x.set c.index.val _ c.index.isLt)[18] = 0
    rw [Vector.getElem_set, if_neg hne]
    exact h.2

theorem addCount_evolves (c : Counter) (n : Nat) (s : State) : Evolves k s (addCount c n s) :=
  (Change.counters _ (countersHold_set c _ s.counters)).evolves

theorem bump_evolves (c : Counter) (s : State) : Evolves k s (bump c s) := addCount_evolves c 1 s

theorem bumpIf_evolves (b : Bool) (c : Counter) (s : State) : Evolves k s (bumpIf b c s) :=
  evolves_ite (fun _ => bump_evolves c s) (fun _ => .refl)

theorem testHead_evolves (s : State) : Evolves k s (testHead s) := by
  obtain h | ⟨w, rest, hw, h⟩ := testHead_cases s
  · rw [h]; exact .refl
  · rw [h]
    exact (Change.waiting _ (by simp [hw])).evolves.trans (bump_evolves ..)

theorem sequencesFrom_append (l : List JournalEntry) (first : Nat) (e : JournalEntry) (h : sequencesFrom first l)
    (he : e.sequence = (first + l.length) % 65536) (hf : first < 65536) : sequencesFrom first (l ++ [e]) := by
  induction l generalizing first with
  | nil => exact ⟨by simpa [Nat.mod_eq_of_lt hf] using he, trivial⟩
  | cons x rest ih =>
    refine ⟨h.1, ih _ h.2 ?_ (Nat.mod_lt _ (by omega))⟩
    rw [he, List.length_cons]
    omega

theorem sequencesFrom_tail (l : List JournalEntry) (first : Nat) (h : sequencesFrom first l) (hl : l ≠ []) :
    sequencesFrom ((first + 1) % 65536) l.tail := by
  cases l with
  | nil => exact absurd rfl hl
  | cons x rest => exact h.2

theorem sequencesFrom_map (f : JournalEntry → JournalEntry) (hf : ∀ e, (f e).sequence = e.sequence) (l : List JournalEntry)
    (first : Nat) (h : sequencesFrom first l) : sequencesFrom first (l.map f) := by
  induction l generalizing first with
  | nil => trivial
  | cons x rest ih => exact ⟨(hf x).trans h.1, ih _ h.2⟩

/-- R161: an entry with its flags and announcement by its outcome joins a journal in order. -/
theorem journalHolds_write (s : State) (e : JournalEntry) (he : e.holds) (hseq : e.sequence = s.journal.next)
    (h : journalHolds s) :
    journalHolds { s with journal :=
      { entries := (if 512 ≤ s.journal.entries.length then s.journal.entries.tail else s.journal.entries) ++ [e]
        next := (s.journal.next + 1) % 65536 } } := by
  obtain ⟨hnext, hlen, horder, hall⟩ := h
  simp only [Config.journalMax] at hlen
  have hlast : ∀ x ∈ (if 512 ≤ s.journal.entries.length then s.journal.entries.tail else s.journal.entries) ++ [e], x.holds := by
    intro x hx
    rw [List.mem_append, List.mem_singleton] at hx
    obtain hx | rfl := hx
    · split at hx
      · exact hall x (List.mem_of_mem_tail hx)
      · exact hall x hx
    · exact he
  refine ⟨Nat.mod_lt _ (by omega), ?_, ?_, hlast⟩
  · simp only [List.length_append, List.length_singleton, Config.journalMax]
    split
    · rw [List.length_tail]; omega
    · omega
  · by_cases hfull : 512 ≤ s.journal.entries.length
    · rw [if_pos hfull]
      have ht := sequencesFrom_tail _ _ horder (by intro h0; simp [h0] at hfull)
      dsimp only
      rw [List.length_append, List.length_tail, List.length_singleton]
      rw [show ((s.journal.next + 1) % 65536 + (65536 - (s.journal.entries.length - 1 + 1))) % 65536 =
        ((s.journal.next + (65536 - s.journal.entries.length)) % 65536 + 1) % 65536 by omega]
      refine sequencesFrom_append _ _ _ ht ?_ (Nat.mod_lt _ (by omega))
      rw [List.length_tail, hseq]
      omega
    · rw [if_neg hfull]
      dsimp only
      rw [List.length_append, List.length_singleton]
      rw [show ((s.journal.next + 1) % 65536 + (65536 - (s.journal.entries.length + 1))) % 65536 =
        (s.journal.next + (65536 - s.journal.entries.length)) % 65536 by omega]
      refine sequencesFrom_append _ _ _ horder ?_ (Nat.mod_lt _ (by omega))
      rw [hseq]
      omega

/-- R161: writing an entry whose flags and announcement are those its outcome has. -/
theorem writeJournal_evolves (stamp : Stamp) (r : Option Reader) (b : Option Nat) (o : JournalOutcome) (a : Announcement)
    (f : Option PunchFlags) (s : State) (hf : f.isSome = true ↔ o.isAdmitted = true) (ha : a ≠ .none ↔ o.isAdmitted = true) :
    Evolves k s (writeJournal stamp r b o a f s) := by
  unfold writeJournal
  refine (bumpIf_evolves _ _ _).after (Change.evolves (.journal _ fun h => ?_))
  have hwritten := journalHolds_write s
    { sequence := s.journal.next, stamp := stamp, clockSet := s.clock.isSet, reader := r, badge := b, outcome := o,
      announcement := a, flags := f } ⟨hf, ha⟩ rfl h
  refine (journalHolds_congr ?_).2 hwritten
  by_cases hfull : 512 ≤ s.journal.entries.length <;> simp [Config.journalMax, hfull]

theorem writeGateEntry_evolves (o : JournalOutcome) (s : State) (h : o.isAdmitted = false) : Evolves k s (writeGateEntry o s) :=
  writeJournal_evolves _ _ _ _ _ _ _ (by simp [h]) (by simp [h])

theorem markJournal_evolves (n : PunchNotice) (m : Announcement) (hm : m ≠ .none) (s : State) :
    Evolves k s (markJournal n m s) := by
  refine (Change.journal _ fun h => ?_).evolves
  obtain ⟨hnext, hlen, horder, hall⟩ := h
  refine ⟨hnext, by simpa using hlen, ?_, ?_⟩
  · dsimp only
    rw [List.length_map]
    exact sequencesFrom_map _ (by intro e; split <;> rfl) _ _ horder
  · intro e he
    obtain ⟨x, hx, rfl⟩ := List.mem_map.1 he
    split
    · rename_i hfor
      obtain ⟨hflags, -⟩ := hall x hx
      simp only [JournalEntry.isFor, Bool.and_eq_true] at hfor
      exact ⟨hflags, iff_of_true hm hfor.1.1.2⟩
    · exact hall x hx

theorem showResult_evolves (text : List Byte) (s : State) : Evolves k s (showResult text s) :=
  evolves_ite (fun _ => (Change.panel _).evolves) (fun _ => .refl)

theorem deliverMessage_evolves (m : Option Nat) (s : State) : Evolves k s (deliverMessage m s) := by
  obtain ⟨p, h⟩ := deliverMessage_changes m s
  rw [h]
  exact (Change.panel _).evolves

theorem showClock_evolves (m : Nat) (s : State) : Evolves k s (showClock m s) :=
  evolves_ite (fun _ => (Change.panel _).evolves) (fun _ => .refl)

/-! ### Refusals and the waiting queue -/

theorem setChannel_evolves (r : Reader) (x : Channel) (s : State) (h : x.suppression = (s.channel r).suppression) :
    Evolves k s (s.setChannel r x) :=
  (Change.channel r x (by rw [h]; exact id)).evolves

theorem indicate_evolves (r : Reader) (b : Bool) (s : State) : Evolves k s (indicate r b s) := setChannel_evolves r _ s rfl

/-- R47: an outcome's entry keeps a list within its capacity, with no badge twice. -/
theorem suppressionHolds_suppress (badge time : Nat) (l : List Suppressed) (h : suppressionHolds l) :
    suppressionHolds (suppress badge time l) := by
  obtain ⟨hlen, hnodup⟩ := h
  simp only [Config.suppressionMax] at hlen
  have hle := List.length_filter_le (fun e : Suppressed => decide (e.badge ≠ badge)) l
  have hsub : ((l.filter (fun e => decide (e.badge ≠ badge)) ++ [({ badge := badge, time := time } : Suppressed)]).map
      Suppressed.badge).Nodup := by
    rw [List.map_append, List.map_singleton, List.nodup_append]
    refine ⟨hnodup.sublist ((List.filter_sublist).map _), by simp, ?_⟩
    simp only [List.mem_map, List.mem_filter, List.mem_singleton, decide_eq_true_eq]
    rintro _ ⟨e, ⟨-, he⟩, rfl⟩ _ rfl
    exact he
  by_cases hfull :
      8 < (l.filter (fun e => decide (e.badge ≠ badge)) ++ [({ badge := badge, time := time } : Suppressed)]).length
  all_goals simp only [suppress, suppressionHolds, Config.suppressionMax, hfull, if_true, if_false]
  · refine ⟨?_, hsub.sublist ((List.tail_sublist _).map _)⟩
    simp only [List.length_tail, List.length_append, List.length_singleton]
    omega
  · exact ⟨by omega, hsub⟩

theorem noteOutcome_evolves (r : Reader) (b : Nat) (s : State) : Evolves k s (noteOutcome r b s) :=
  (Change.channel r _ (suppressionHolds_suppress b s.now _)).evolves

theorem refuseAtChannel_evolves (r : Reader) (b : Option Nat) (why : Reason) (s : State) :
    Evolves k s (refuseAtChannel r b why s) :=
  ((writeJournal_evolves s.clock.stamp (some r) b (.refused why) .none none s (by simp [JournalOutcome.isAdmitted])
    (by simp [JournalOutcome.isAdmitted])).trans (showResult_evolves ..)).trans (indicate_evolves ..)

theorem refuseRead_evolves (r : Reader) (b : Nat) (why : Reason) (s : State) : Evolves k s (refuseRead r b why s) :=
  (refuseAtChannel_evolves ..).trans (noteOutcome_evolves ..)

/-! ### The transmit queue -/

/-- A change of the line that keeps its frames, its reservations and its receive buffer. -/
theorem line_evolves (x : Line) (s : State) (ht : x.tx.length ≤ s.line.tx.length) (hr : x.reserved = s.line.reserved)
    (hx : x.rx.length ≤ s.line.rx.length) : Evolves k s { s with line := x } :=
  (Change.line x hr (by simp only [Line.held]; omega) (by omega)).evolves

theorem offer_evolves (p : TxPayload) (c : Counter) (s : State) : Evolves k s (offer p c s) := by
  refine evolves_ite (fun h => Change.evolves (.line _ rfl ?_ id)) (fun _ => bump_evolves c s)
  rw [one_le_txSpace_iff] at h
  intro _
  simp only [Line.held, List.length_append, List.length_singleton]
  omega

theorem offerReply_evolves (r : Reply) (s : State) : Evolves k s (offerReply r s) := offer_evolves ..

theorem restartReplyGone_evolves (r : Reply) (s : State) : Evolves k s (restartReplyGone r s) :=
  evolves_ite (fun _ => (Change.restart _).evolves) (fun _ => .refl)

theorem popHead_evolves (s : State) : Evolves k s (popHead s) := line_evolves _ s (by simp) rfl le_rfl

theorem noteSent_evolves (p : TxPayload) (s : State) : Evolves k s (noteSent p s) := by
  cases p with
  | punch n => exact markJournal_evolves n .sent (by decide) s
  | beacon => exact .refl
  | ring r => exact .refl
  | reply r => exact restartReplyGone_evolves r s

theorem noteGivenUp_evolves (p : TxPayload) (s : State) : Evolves k s (noteGivenUp p s) := by
  cases p with
  | punch n => exact markJournal_evolves n .lost (by decide) s
  | beacon => exact .refl
  | ring r => exact .refl
  | reply r => exact (bump_evolves ..).trans (restartReplyGone_evolves ..)

theorem noteEmptied_evolves (p : TxPayload) (s : State) : Evolves k s (noteEmptied p s) := by
  cases p with
  | punch n => exact markJournal_evolves n .lost (by decide) s
  | beacon => exact .refl
  | ring r => exact .refl
  | reply r => exact .refl

theorem emptyTx_evolves (s : State) : Evolves k s (emptyTx s) :=
  (foldl_evolves _ (fun t (f : TxFrame) => noteEmptied_evolves f.payload t) s.line.tx s).trans
    (line_evolves _ _ (by simp) rfl le_rfl)

theorem sendComplete_evolves (s : State) : Evolves k s (sendComplete s) := by
  unfold sendComplete
  split
  · exact .refl
  · exact (testHead_evolves _).after ((noteSent_evolves _ _).after ((popHead_evolves _).after (line_evolves _ s le_rfl rfl le_rfl)))

theorem giveUp_evolves (p : TxPayload) (s : State) : Evolves k s (giveUp p s) :=
  (((popHead_evolves s).trans (bump_evolves ..)).trans (noteGivenUp_evolves ..)).trans (testHead_evolves _)

theorem collide_evolves (s : State) : Evolves k s (collide s) := by
  have hcut : Evolves k s (bump .collision { s with line := { s.line with attempt := none } }) :=
    (bump_evolves _ _).after (line_evolves _ s le_rfl rfl le_rfl)
  unfold collide
  dsimp only
  split
  · exact hcut
  · exact evolves_ite (fun _ => hcut.trans (giveUp_evolves ..)) (fun _ => Evolves.after (line_evolves _ _ le_rfl rfl le_rfl) hcut)

theorem sendAttemptStart_evolves (s : State) : Evolves k s (sendAttemptStart s) := by
  unfold sendAttemptStart
  split
  · exact .refl
  · rename_i f rest hq
    exact evolves_ite (fun _ => line_evolves _ s (by simp [hq]) rfl le_rfl) (fun _ => .refl)

/-! ### The receiver -/

theorem bufferFrame_evolves (f : RxFrame) (s : State) : Evolves k s (bufferFrame f s) := by
  refine evolves_ite (fun h => Change.evolves (.line _ rfl id fun _ => ?_)) (fun _ => bump_evolves ..)
  simp only [List.length_append, List.length_singleton]
  simp only [Config.rxMax] at h
  omega

theorem sortFrame_evolves (bytes body : List Byte) (s : State) : Evolves k s (sortFrame bytes body s) := by
  unfold sortFrame
  split
  · exact bump_evolves ..
  · exact evolves_ite (fun _ => evolves_ite (fun _ => .refl) (fun _ => bufferFrame_evolves ..)) (fun _ => bump_evolves ..)

theorem frameComplete_evolves (bytes : List Byte) (own : Bool) (s : State) : Evolves k s (frameComplete bytes own s) :=
  evolves_ite (fun _ => .refl) fun _ => evolves_ite (fun _ => bump_evolves ..) fun _ =>
    evolves_ite (fun _ => (bump_evolves _ _).after (Change.evolves (.peers _ id))) fun _ =>
      evolves_ite (fun _ => .refl) fun _ => sortFrame_evolves ..

theorem setAssembly_evolves (a : Option (List Byte)) (s : State) : Evolves k s (setAssembly a s) :=
  line_evolves _ s le_rfl rfl le_rfl

theorem extendFrame_evolves (bytes : List Byte) (own : Bool) (s : State) : Evolves k s (extendFrame bytes own s) :=
  evolves_ite (fun _ => (setAssembly_evolves ..).trans (bump_evolves ..)) fun _ =>
    evolves_ite (fun _ => (setAssembly_evolves ..).trans (frameComplete_evolves ..)) fun _ => setAssembly_evolves ..

theorem assemble_evolves (data : Byte) (mark own : Bool) (s : State) : Evolves k s (assemble data mark own s) := by
  unfold assemble
  split
  · exact evolves_ite (fun _ => setAssembly_evolves ..) (fun _ => .refl)
  · exact evolves_ite (fun _ => (setAssembly_evolves ..).trans (bump_evolves ..)) (fun _ => extendFrame_evolves ..)

theorem readBack_evolves (a : Attempt) (data : Byte) (mark : Bool) (s : State) : Evolves k s (readBack a data mark s) :=
  evolves_ite
    (fun _ => evolves_ite (fun _ => sendComplete_evolves s) (fun _ => line_evolves _ s le_rfl rfl le_rfl))
    (fun _ => collide_evolves s)

theorem characterReceived_evolves (cells : CharCells) (s : State) : Evolves k s (characterReceived cells s) := by
  refine evolves_ite (fun _ => Evolves.trans (line_evolves { s.line with receiving := false, idle := 0, charSeen := true } s le_rfl
    rfl le_rfl) ?_) (fun _ => .refl)
  dsimp only
  split
  · unfold takeCharacter
    split
    · exact assemble_evolves ..
    · exact (readBack_evolves _ _ _ _).after (assemble_evolves ..)
  · unfold takeFramingError
    split
    · exact (bump_evolves _ _).after (setAssembly_evolves ..)
    · exact (collide_evolves _).after ((bump_evolves _ _).after (setAssembly_evolves ..))

theorem startBitConfirmed_evolves (cell : BitCell) (s : State) : Evolves k s (startBitConfirmed cell s) :=
  evolves_ite (fun _ => line_evolves _ s le_rfl rfl le_rfl) (fun _ => .refl)

theorem characterTimeEnd_evolves (s : State) : Evolves k s (characterTimeEnd s) :=
  evolves_ite
    (fun _ => evolves_ite (fun _ => (collide_evolves _).after (line_evolves _ s le_rfl rfl le_rfl))
      (fun _ => line_evolves _ s le_rfl rfl le_rfl))
    (fun _ => .refl)

end Sys2Proof.Machine

/-! PROOFS. The worker records keep their ranges in every operation on the roster (R22 to R41, R107 to R116). -/

namespace Sys2Proof.Machine

/-! ### The collection -/

theorem mem_of_record {s : State} {badge : Nat} {x : Record} (h : s.record badge = some x) : x ∈ s.roster ∧ x.badge = badge := by
  refine ⟨List.mem_of_find?_eq_some h, ?_⟩
  simpa using List.find?_some h

/-- A change of single records that keeps their badges keeps the order of the roster. -/
theorem rosterHolds_map (f : Record → Record) (s : State) (hb : ∀ x, (f x).badge = x.badge)
    (hf : ∀ x ∈ s.roster, x.holds → (f x).holds) (h : rosterHolds s) : rosterHolds { s with roster := s.roster.map f } := by
  obtain ⟨hlen, horder, hall, hclock⟩ := h
  refine ⟨by simpa using hlen, ?_, ?_, hclock⟩
  · rw [List.pairwise_map]
    exact horder.imp (by simp [hb])
  · intro y hy
    obtain ⟨x, hx, rfl⟩ := List.mem_map.1 hy
    exact hf x hx (hall x hx)

theorem rosterHolds_put (y : Record) (s : State) (hy : y.holds) (h : rosterHolds s) :
    rosterHolds { s with roster := putRecord y s.roster } := by
  refine rosterHolds_map _ s (fun x => ?_) (fun x _ hx => ?_) h
  · split
    · rename_i heq; exact heq.symm
    · rfl
  · split
    · exact hy
    · exact hx

theorem rosterHolds_remove (badge : Nat) (s : State) (h : rosterHolds s) :
    rosterHolds { s with roster := removeRecord badge s.roster } := by
  obtain ⟨hlen, horder, hall, hclock⟩ := h
  exact ⟨(List.length_filter_le ..).trans hlen, horder.filter _, fun x hx => hall x (List.mem_filter.1 hx).1, hclock⟩

theorem rosterHolds_settle (y : Record) (s : State) (hy : y.holds) (h : rosterHolds s) :
    rosterHolds { s with roster := settleRecord y s.roster } := by
  unfold settleRecord
  split
  · exact rosterHolds_remove _ s h
  · exact rosterHolds_put y s hy h

theorem mem_insertRecord {x y : Record} {l : List Record} : y ∈ insertRecord x l ↔ y = x ∨ y ∈ l := by
  induction l with
  | nil => simp [insertRecord]
  | cons z rest ih =>
    unfold insertRecord
    split
    · simp
    · simp only [List.mem_cons, ih]
      exact or_left_comm

theorem length_insertRecord (x : Record) (l : List Record) : (insertRecord x l).length = l.length + 1 := by
  induction l with
  | nil => rfl
  | cons z rest ih =>
    unfold insertRecord
    split
    · rfl
    · simp [ih]

/-- R22: a badge the roster does not hold finds its place in the ascending order. -/
theorem pairwise_insertRecord (x : Record) (l : List Record) (h : l.Pairwise (fun a b => a.badge < b.badge))
    (hx : ∀ y ∈ l, y.badge ≠ x.badge) : (insertRecord x l).Pairwise (fun a b => a.badge < b.badge) := by
  induction l with
  | nil => simp [insertRecord]
  | cons z rest ih =>
    obtain ⟨hz, hrest⟩ := List.pairwise_cons.1 h
    unfold insertRecord
    split
    · rename_i hlt
      refine List.pairwise_cons.2 ⟨fun y hy => ?_, h⟩
      obtain rfl | hy := List.mem_cons.1 hy
      · exact hlt
      · exact hlt.trans (hz y hy)
    · rename_i hge
      refine List.pairwise_cons.2 ⟨fun y hy => ?_, ih hrest (fun y hy => hx y (List.mem_cons_of_mem _ hy))⟩
      have hne := hx z List.mem_cons_self
      obtain rfl | hy := mem_insertRecord.1 hy
      · omega
      · exact hz y hy

theorem rosterHolds_insert (x : Record) (s : State) (hx : x.holds) (hnew : s.record x.badge = none)
    (hlen : s.roster.length < Config.rosterMax) (h : rosterHolds s) :
    rosterHolds { s with roster := insertRecord x s.roster } := by
  obtain ⟨-, horder, hall, hclock⟩ := h
  have hne : ∀ y ∈ s.roster, y.badge ≠ x.badge := by simpa [State.record, findRecord] using hnew
  refine ⟨by rw [length_insertRecord]; exact hlen, pairwise_insertRecord x _ horder hne, ?_, hclock⟩
  intro y hy
  obtain rfl | hy := mem_insertRecord.1 hy
  · exact hx
  · exact hall y hy

theorem roster_evolves {k : Nat} (x : List Record) (s : State) (h : rosterHolds s → rosterHolds { s with roster := x }) :
    Evolves k s { s with roster := x } := Change.evolves (.roster x h)

/-! ### Week slots -/

theorem WeekSlot.inRange_emptyWith (tag : Nat) : (WeekSlot.emptyWith tag).inRange := by
  simp [WeekSlot.inRange, WeekSlot.emptyWith]

theorem WeekSlot.inRange_credit (w : WeekSlot) (r : PayResult) : (w.credit r).inRange := by
  simp [WeekSlot.inRange, WeekSlot.credit, minutesMax, creditsMax, payMax, intervalsMax]

/-- R112: the slots of a record move on to a week that CURRENT does not have. -/
theorem Record.holds.changeWeek {x : Record} (h : x.holds) (w : Nat) : (changeWeek w x).holds := by
  unfold Machine.changeWeek
  split
  · exact h
  · rename_i hne
    exact { h with tags := fun heq => hne heq.symm, collected := rfl, current := WeekSlot.inRange_emptyWith w, previous := h.current }

theorem changeWeek_badge (w : Nat) (x : Record) : (changeWeek w x).badge = x.badge := by
  unfold changeWeek
  split <;> rfl

theorem Record.holds.markCollected {x : Record} (h : x.holds) (w : Nat) : (markCollected w x).holds := by
  rw [markCollected_eq]
  split
  · exact { h with previous := h.previous }
  · exact h

theorem markCollected_badge (w : Nat) (x : Record) : (markCollected w x).badge = x.badge := by
  rw [markCollected_eq]
  split <;> rfl

/-- R109: a result's credit keeps the slots in their ranges and their tags apart. -/
theorem Record.holds.creditSlots {x : Record} (h : x.holds) (r : PayResult) : (creditSlots x r).holds := by
  unfold Machine.creditSlots
  split
  · exact { h with current := WeekSlot.inRange_credit .. }
  · exact { h with previous := WeekSlot.inRange_credit .. }
  · exact { h with previous := WeekSlot.inRange_credit x.previous r }
  · exact h

/-- R109: a credit changes the record's slots alone. -/
theorem creditSlots_eq (x : Record) (r : PayResult) :
    creditSlots x r = { x with current := (creditSlots x r).current, previous := (creditSlots x r).previous } := by
  unfold creditSlots
  split <;> rfl

theorem insertKey_holds (key : PunchKey) (l : List PunchKey) (hl : l.length ≤ 3 ∧ l.Nodup) (hnew : key ∉ l) :
    (insertKey key l).length ≤ 3 ∧ (insertKey key l).Nodup := by
  refine ⟨by simp [insertKey, Config.creditedMax], ?_⟩
  exact (List.nodup_cons.2 ⟨hnew, hl.2⟩).sublist (List.take_sublist _ _)

/-! ### Accumulators -/

/-- R23: every figure of an accumulator, if there is one, in its range. -/
def accHolds (a : Option Accumulator) : Prop := ∀ x, a = some x → x.inRange

theorem accHolds_none : accHolds none := nofun

theorem accHolds_some {a : Accumulator} (h : a.inRange) : accHolds (some a) := by
  rintro _ ⟨⟩
  exact h

theorem Accumulator.inRange_fresh (start code : Nat) : (Accumulator.fresh start code).inRange := by
  simp [Accumulator.inRange, Accumulator.fresh]

theorem Accumulator.inRange.resumed {a : Accumulator} (h : a.inRange) (e : ShiftEntry) (stamp : Stamp) :
    (resumed e a stamp).inRange := by
  unfold Machine.resumed
  split
  · exact h
  · split <;> exact h

theorem accHolds_accumulatorAtOpen (c : Settings) (acc : Option Accumulator) (stamp : Stamp) (o : Occurrence) (h : accHolds acc) :
    accHolds (accumulatorAtOpen c acc stamp o) := by
  unfold accumulatorAtOpen
  split
  · exact h
  · exact h
  · split
    · exact accHolds_some (Accumulator.inRange_fresh ..)
    · rename_i a
      split
      · exact accHolds_some ((h a rfl).resumed _ _)
      · exact accHolds_some (Accumulator.inRange_fresh ..)

theorem grossPlus_le (gross : Nat) (span : Int) : grossPlus gross span ≤ 2880 := by
  unfold grossPlus Config.spanMax
  dsimp only
  split <;> exact Nat.min_le_left ..

theorem accHolds_addHeard (acc : Option Accumulator) (r : PayResult) (stamp : Stamp) (h : accHolds acc) :
    accHolds (addHeard acc r stamp) := by
  unfold addHeard
  split
  · split
    · exact accHolds_some ⟨grossPlus_le .., Nat.min_le_left .., Nat.min_le_left .., Nat.min_le_left ..⟩
    · exact h
  · exact h

theorem accHolds_touchLastOut (acc : Option Accumulator) (iv : OpenInterval) (stamp : Stamp) (h : accHolds acc) :
    accHolds (touchLastOut acc iv stamp) := by
  unfold touchLastOut
  split
  · exact accHolds_none
  · rename_i a
    split
    · exact accHolds_some (h a rfl)
    · exact h

theorem accHolds_closeInterval (c : Settings) (iv : OpenInterval) (acc : Option Accumulator) (out : Stamp) (rate : Nat)
    (h : accHolds acc) : accHolds (closeInterval c iv acc out rate).2 := by
  unfold closeInterval
  dsimp only
  split
  · exact h
  · exact h
  · exact accHolds_some ⟨Nat.min_le_left .., Nat.min_le_left .., Nat.min_le_left .., Nat.min_le_left ..⟩

/-! ### Punches -/

theorem Record.holds.openInterval {x : Record} (h : x.holds) (c : Settings) (key : PunchKey) (o : Occurrence) :
    (openInterval c key o x).holds :=
  { h with presence := by simp [Machine.openInterval], acc := accHolds_accumulatorAtOpen c x.acc key.stamp o h.acc,
           tags := h.tags, collected := h.collected, current := h.current }

theorem Record.holds.applyCurrent {x : Record} (h : x.holds) (c : Settings) (n : PunchNotice) (key : PunchKey) :
    (applyCurrent c n key x).holds := by
  unfold Machine.applyCurrent
  split
  · exact { h.openInterval c key _ with }
  · exact h
  · exact { h with presence := by simp }

theorem Record.holds.heardPassage {x : Record} (h : x.holds) (c : Settings) (n : PunchNotice) (key : PunchKey) :
    (heardPassage c n key x).holds := by
  unfold Machine.heardPassage
  split
  · exact h.applyCurrent c n key
  · exact h

theorem Record.holds.creditHeard {x : Record} (h : x.holds) (r : PayResult) (stamp : Stamp) (hnew : r.key ∉ x.credited) :
    (creditHeard r stamp x).holds :=
  { h.creditSlots r with acc := accHolds_addHeard x.acc r stamp h.acc, keys := insertKey_holds _ _ h.keys hnew }

theorem Record.holds.heardResult {x : Record} (h : x.holds) (n : PunchNotice) : (heardResult n x).holds := by
  unfold Machine.heardResult
  split
  · exact h
  · split
    · exact h
    · exact h.creditHeard _ _ ‹_›

theorem Record.holds.applyFlags {x : Record} (h : x.holds) (n : PunchNotice) : (applyFlags n x).holds := by
  refine { h with message := ?_, tags := h.tags, collected := h.collected, current := h.current }
  intro m hm
  simp only [Machine.applyFlags] at hm
  split at hm
  · exact nomatch hm
  · exact h.message m hm

theorem Record.holds.heardRecord {x : Record} (h : x.holds) (c : Settings) (n : PunchNotice) (source : Nat) :
    (heardRecord c n source x).holds := ((h.heardPassage c n _).heardResult n).applyFlags n

theorem Record.holds.finishOwn {x : Record} (h : x.holds) (before : Record) (key : PunchKey) (d : Direction) (unpaired : Bool) :
    (finishOwn before key d unpaired x).holds :=
  { h with message := nofun, tags := h.tags, collected := h.collected, current := h.current }

theorem Record.holds.closeOwn {x : Record} (h : x.holds) (c : Settings) (iv : OpenInterval) (stamp : Stamp) :
    (closeOwn c iv stamp x).1.holds := by
  unfold Machine.closeOwn
  dsimp only
  split
  · exact { h with acc := accHolds_touchLastOut _ _ _ h.acc, presence := by simp }
  · rename_i hnew
    exact { h.creditSlots _ with
      acc := accHolds_touchLastOut _ _ _ (accHolds_closeInterval _ _ _ _ _ h.acc), keys := insertKey_holds _ _ h.keys hnew
      presence := by simp }

theorem newRecord_holds (badge code cls week : Nat) (hb : 1 ≤ badge ∧ badge ≤ 16777214) (hc : code ≤ 12) (hr : cls ≤ 7) :
    (newRecord badge code cls week).holds where
  badge := hb
  shiftCode := hc
  rateClass := hr
  presence := by simp [newRecord]
  acc := nofun
  keys := by simp [newRecord]
  message := nofun
  tags := by simp only [newRecord, WeekSlot.emptyWith, weekBefore, Config.weekCount]; omega
  collected := rfl
  current := WeekSlot.inRange_emptyWith _
  previous := WeekSlot.inRange_emptyWith _

/-! ### Commands of the roster -/

variable {k : Nat}

theorem rosterWeekChange_evolves (w : Nat) (s : State) : Evolves k s (rosterWeekChange w s) :=
  (addCount_evolves _ _ _).after (roster_evolves _ s
    (rosterHolds_map _ s (changeWeek_badge w) (fun _ _ hx => hx.changeWeek w)))

theorem countPlace_evolves (p : CreditPlace) (s : State) : Evolves k s (countPlace p s) := by
  cases p with
  | current => exact .refl
  | previous => exact .refl
  | previousCollected => exact bump_evolves ..
  | stale => exact bump_evolves ..

theorem countHeardResult_evolves (n : PunchNotice) (x : Record) (s : State) : Evolves k s (countHeardResult n x s) := by
  unfold countHeardResult
  split
  · exact .refl
  · exact evolves_ite (fun _ => bump_evolves ..) (fun _ => countPlace_evolves ..)

theorem countOwnClose_evolves (c : Settings) (iv : OpenInterval) (stamp : Stamp) (x : Record) (s : State) :
    Evolves k s (countOwnClose c iv stamp x s) :=
  evolves_ite (fun _ => bump_evolves ..) (fun _ => countPlace_evolves ..)

/-- A record of the roster settled with new contents, once counters alone have changed. -/
theorem settle_evolves (x y : Record) (badge : Nat) (s t : State) (counters : Counters) (ht : t = { s with counters := counters })
    (hx : s.record badge = some x) (hy : x.holds → y.holds) :
    Evolves k t { t with roster := settleRecord y s.roster } := by
  subst ht
  exact roster_evolves _ _ fun h => rosterHolds_settle y { s with counters := counters } (hy (h.2.2.1 x (mem_of_record hx).1)) h

theorem hearNotice_evolves (n : PunchNotice) (source : Nat) (s : State) : Evolves k s (hearNotice n source s) := by
  unfold hearNotice
  split
  · exact bump_evolves ..
  · rename_i x hx
    dsimp only
    obtain ⟨c, h1⟩ := bumpIf_changes (heardAbandons x n { stamp := n.stamp, station := source }) .intervalAbandoned s
    obtain ⟨c', h2⟩ := bumpIf_changes (!isCurrent x { stamp := n.stamp, station := source }) .punchLate { s with counters := c }
    obtain ⟨c'', h3⟩ := countHeardResult_changes n (heardPassage s.settings n { stamp := n.stamp, station := source } x)
      { s with counters := c' }
    refine (settle_evolves x _ n.badge s _ c'' ?_ hx (fun h => h.heardRecord _ _ _)).after
      ((countHeardResult_evolves ..).after ((bumpIf_evolves _ _ _).after (bumpIf_evolves ..)))
    rw [h1, h2, h3]

theorem hearPunch_evolves (s : State) : Evolves k s (hearPunch s) := by
  unfold hearPunch
  split
  · exact .refl
  · rename_i f rest hrx
    refine evolves_ite (fun _ => Evolves.after ?_ (line_evolves { s.line with rx := rest } s le_rfl rfl (by simp [hrx])))
      (fun _ => .refl)
    unfold hearPunchBody
    split
    · exact bump_evolves ..
    · exact evolves_ite (fun _ => hearNotice_evolves ..) (fun _ => bump_evolves ..)

theorem commitRoster_evolves (p : PendingPunch) (stamp : Stamp) (s : State) : Evolves k s (commitRoster p stamp s).1 := by
  unfold commitRoster
  dsimp only
  split
  · exact bump_evolves ..
  · rename_i x hx
    split
    · obtain ⟨c, h⟩ := bumpIf_changes x.interval.isSome .intervalAbandoned s
      exact (settle_evolves x _ p.badge s _ c h hx (fun hx => (hx.openInterval _ _ _).finishOwn ..)).after (bumpIf_evolves ..)
    · split
      · rename_i hi
        refine roster_evolves _ s fun h => rosterHolds_settle _ s (Record.holds.finishOwn ?_ ..) h
        exact { h.2.2.1 x (mem_of_record hx).1 with presence := by simp [hi] }
      · rename_i iv _
        obtain ⟨c, h⟩ := countOwnClose_changes s.settings iv stamp x s
        exact (settle_evolves x _ p.badge s _ c h hx (fun hx => (hx.closeOwn _ _ _).finishOwn ..)).after
          (countOwnClose_evolves ..)

end Sys2Proof.Machine

/-! PROOFS. Every command is a sequence of changes: the bell, the clock, the peers, the requests, the gate, the starts. -/

namespace Sys2Proof.Machine

variable {k : Nat}

/-! ### The bell -/

theorem bell_evolves (x : Bell) (s : State) (h : s.bell.queue.length ≤ 4 → x.queue.length ≤ 4) :
    Evolves k s { s with bell := x } := Change.evolves (.bell x h)

theorem startRings_evolves (s : State) : Evolves k s (startRings s) := by
  unfold startRings
  split
  · split
    · exact .refl
    · rename_i r rest hq
      refine evolves_ite (fun _ => bell_evolves _ s ?_) (fun _ => (addCount_evolves _ _ _).after (bell_evolves _ s (by simp)))
      simp only [hq, List.length_cons, Bell.beginRing, Bell.strike]
      omega
  · exact .refl

/-- R129: a ring joins a queue that is not full. -/
theorem ringJoin_evolves (r : Ring) (s : State) (h : ringsFull s = false) : Evolves k s (ringJoin r s) := by
  refine (startRings_evolves _).after (bell_evolves _ s fun _ => ?_)
  have hroom : ¬4 ≤ s.bell.queue.length := of_decide_eq_false h
  simp only [List.length_append, List.length_singleton]
  omega

theorem fireRing_evolves (i : Nat) (s : State) : Evolves k s (fireRing i s) :=
  evolves_ite
    (fun _ => evolves_ite (fun _ => bump_evolves ..) (fun h => ringJoin_evolves _ s (by simpa using h)))
    (fun _ => bump_evolves ..)

theorem openRush_evolves (m : Nat) (s : State) : Evolves k s (openRush m s) :=
  evolves_ite (fun _ => .refl) (fun _ => bell_evolves _ s id)

theorem fireEntry_evolves (c : Stamp) (i : Nat) (own : Bool) (s : State) : Evolves k s (fireEntry c i own s) := by
  have hnotice (t : State) : Evolves k t (fireNotice c i own t) := evolves_ite (fun _ => offer_evolves ..) (fun _ => .refl)
  have hrush (t : State) : Evolves k t (fireRush c i t) := evolves_ite (fun _ => openRush_evolves ..) (fun _ => .refl)
  exact (hrush _).after ((hnotice _).after ((fireRing_evolves i _).after (bell_evolves _ s id)))

theorem missEntry_evolves (i : Nat) (s : State) : Evolves k s (missEntry i s) := (bump_evolves _ _).after (bell_evolves _ s id)

theorem fireDue_evolves (c : Stamp) (s : State) : Evolves k s (fireDue c s) :=
  foldl_evolves _ (fun t i => evolves_ite (fun _ => fireEntry_evolves c i true t) (fun _ => missEntry_evolves i t)) _ s

theorem firePassed_evolves (old : Nat) (s : State) : Evolves k s (firePassed old s) :=
  evolves_ite
    (fun _ => foldl_evolves _ (fun t i => evolves_ite (fun _ => fireEntry_evolves _ i true t) (fun _ => missEntry_evolves i t)) _ s)
    (fun _ => .refl)

theorem newDay_evolves (d : Bool) (s : State) : Evolves k s (newDay d s) :=
  evolves_ite (fun _ => bell_evolves _ s id) (fun _ => .refl)

theorem closeRush_evolves (s : State) : Evolves k s (closeRush s) := bell_evolves _ s id

theorem rushAtAnnouncement_evolves (n : Nat) (b : Bool) (s : State) : Evolves k s (rushAtAnnouncement n b s) := by
  unfold rushAtAnnouncement
  split
  · exact .refl
  · exact evolves_ite (fun _ => closeRush_evolves s) (fun _ => .refl)

theorem bellAdvance_evolves (a : Advance) (s : State) : Evolves k s (bellAdvance a s) :=
  (fireDue_evolves _ _).after ((rushAtAnnouncement_evolves _ _ _).after (newDay_evolves ..))

theorem bellStep_evolves (old : Nat) (c : StepCause) (d : StepDirection) (day : Bool) (s : State) :
    Evolves k s (bellStep old c d day s) := by
  have hrush := (rushAtAnnouncement_evolves s.clock.abs (c == .setClock) _).after (newDay_evolves (k := k) day s)
  cases d with
  | forward => exact (firePassed_evolves _ _).after hrush
  | backward => exact (fireDue_evolves _ _).after hrush
  | initial => exact (fireDue_evolves _ _).after hrush

/-- The receive buffer without its head. -/
theorem taken_evolves (s : State) (f : RxFrame) (rest : List RxFrame) (h : s.line.rx = f :: rest) :
    Evolves k s { s with line := { s.line with rx := rest } } := line_evolves _ s le_rfl rfl (by simp [h])

theorem hearRing_evolves (s : State) : Evolves k s (hearRing s) := by
  unfold hearRing
  split
  · exact .refl
  · rename_i f rest hrx
    refine evolves_ite (fun _ => Evolves.after ?_ (taken_evolves s f rest hrx)) (fun _ => .refl)
    refine evolves_ite (fun _ => ?_) (fun _ => bump_evolves ..)
    exact evolves_ite (fun _ => .refl) fun _ => evolves_ite (fun _ => bump_evolves ..) fun _ =>
      evolves_ite (fun _ => bump_evolves ..) fun _ => evolves_ite (fun _ => .refl) fun _ =>
        evolves_ite (fun _ => bump_evolves ..) fun _ => evolves_ite (fun _ => bump_evolves ..) fun _ => fireEntry_evolves ..

theorem pauseWith_evolves (b : BellState) (s : State) : Evolves k s (pauseWith b s) := bell_evolves _ s id

theorem strokeEnd_evolves (s : State) : Evolves k s (strokeEnd s) := by
  refine evolves_ite (fun _ => evolves_ite (fun _ => ?_) (fun _ => ?_)) (fun _ => .refl)
  · unfold strokePassed
    split
    · exact pauseWith_evolves ..
    · exact (offerReply_evolves _ _).after (pauseWith_evolves ..)
    · exact pauseWith_evolves ..
    · exact bell_evolves _ s id
  · have hopen : Evolves k s (bump .openStroke (pauseWith .faultedOpen s)) := (bump_evolves _ _).after (pauseWith_evolves ..)
    unfold strokeFailed
    dsimp only
    split
    · exact (offerReply_evolves _ _).after hopen
    · exact hopen
    · exact hopen

theorem strokeShortCut_evolves (s : State) : Evolves k s (strokeShortCut s) := by
  refine evolves_ite (fun _ => ?_) (fun _ => .refl)
  split
  · exact (offerReply_evolves _ _).after (pauseWith_evolves ..)
  · exact pauseWith_evolves ..
  · exact pauseWith_evolves ..

theorem gapEnd_evolves (s : State) : Evolves k s (gapEnd s) := by
  refine evolves_ite (fun _ => ?_) (fun _ => .refl)
  split
  · exact bell_evolves _ s id
  all_goals exact pauseWith_evolves ..

theorem pauseEnd_evolves (s : State) : Evolves k s (pauseEnd s) :=
  evolves_ite (fun _ => (startRings_evolves _).after (bell_evolves _ s id)) (fun _ => .refl)

/-! ### The timebase and the clock -/

theorem takeAdvance_evolves (a : Advance) (s : State) : Evolves k s (takeAdvance a s) :=
  (showClock_evolves _ _).after ((bellAdvance_evolves a _).after
    (evolves_ite (fun _ => rosterWeekChange_evolves ..) (fun _ => .refl)))

theorem handAnnouncements_evolves (s : State) : Evolves k s (handAnnouncements s) :=
  (Change.evolves (.announcements [])).trans (foldl_evolves _ (fun t a => takeAdvance_evolves a t) _ _)

theorem advance_evolves (s : State) : Evolves k s (advance s) := by
  unfold advance
  split
  · exact .refl
  · exact evolves_ite (fun _ => (takeAdvance_evolves _ _).after (Change.evolves (.announcements _))) (fun _ => .refl)

/-- R3: the clock counts on within its ranges. -/
theorem Clock.inRange.tick {c : Clock} (h : c.inRange) : c.tick.inRange := by
  obtain ⟨hw, hm, hs, hms⟩ := h
  unfold Clock.tick Clock.carry Clock.inRange Config.minutesPerWeek Config.weekCount
  split
  · exact ⟨hw, hm, hs, by assumption⟩
  · split
    · exact ⟨hw, hm, by assumption, by simp⟩
    · split
      · exact ⟨hw, by assumption, by simp, by simp⟩
      · exact ⟨Nat.mod_lt _ (by omega), by simp, by simp, by simp⟩

theorem countClock_evolves (s : State) : Evolves k s (countClock s) :=
  (Change.evolves (.announcements _)).after (Change.evolves (.clock s.clock.tick Clock.inRange.tick))

theorem Gate.sampleConfigured_keeps (g : Gate) (c : Settings) (pins : Pins) :
    (g.sampleConfigured c pins).cycle = g.cycle ∧ (g.sampleConfigured c pins).releaseTimer = g.releaseTimer ∧
      (g.sampleConfigured c pins).holdTimer = g.holdTimer := ⟨rfl, rfl, rfl⟩

theorem sampleInputs_evolves (pins : Pins) (s : State) : Evolves k s (sampleInputs pins s) :=
  evolves_ite
    (fun _ => evolves_ite (fun _ => Change.evolves (.inputs _ rfl rfl rfl))
      (fun _ => evolves_ite (fun _ => Change.evolves (.inputs _ rfl rfl rfl)) (fun _ => .refl)))
    (fun _ => .refl)

theorem senseBell_evolves (pins : Pins) (s : State) : Evolves k s (senseBell pins s) :=
  evolves_ite (fun _ => bell_evolves _ s id) (fun _ => .refl)

theorem millisecondTick_evolves (pins : Pins) (s : State) : Evolves k s (millisecondTick pins s) :=
  evolves_ite
    (fun _ => (senseBell_evolves pins _).after ((sampleInputs_evolves pins _).after ((countClock_evolves _).after
      (Change.evolves (.timebase _)))))
    (fun _ => evolves_ite (fun _ => Change.evolves (.timebase _)) (fun _ => .refl))

/-- R8: a step to a value in its ranges. -/
theorem stepClock_evolves (new : Stamp) (c : StepCause) (s : State) (hw : new.week < 65536) (hr : new.inRange = true) :
    Evolves k s (stepClock new c s) := by
  have hclock : (steppedClock new).inRange := by
    obtain ⟨hm, hs⟩ := Bool.and_eq_true_iff.1 hr
    exact ⟨hw, of_decide_eq_true hm, of_decide_eq_true hs, by simp [steppedClock]⟩
  refine (showClock_evolves _ _).after ((bellStep_evolves _ _ _ _ _).after (Evolves.after ?_
    ((Change.evolves (.clock (steppedClock new) fun _ => hclock)).after (handAnnouncements_evolves s))))
  exact evolves_ite (fun _ => rosterWeekChange_evolves ..) (fun _ => .refl)

/-! ### The peers -/

theorem getNat_append_singleton (l : List Byte) (b : Byte) : getNat (l ++ [b]) = getNat l * 256 + b.toNat := by
  simp [getNat]

theorem getNat_lt (l : List Byte) : getNat l < 256 ^ l.length := by
  induction l using List.reverseRecOn with
  | nil => simp [getNat]
  | append_singleton l b ih =>
    have hb := b.isLt
    rw [getNat_append_singleton, List.length_append, List.length_singleton, pow_succ]
    omega

theorem get_lt (body : List Byte) (i size : Nat) : Machine.get body i size < 256 ^ size :=
  (getNat_lt _).trans_le (Nat.pow_le_pow_right (by omega) (by simp [slice]))

theorem getStamp_week_lt (body : List Byte) (i : Nat) : (getStamp body i).week < 65536 := get_lt body i 2

theorem dropSilent_sublist (age : Nat) (l : List Peer) : (dropSilent age l).Sublist l := by
  induction l with
  | nil => exact .slnil
  | cons p rest ih =>
    unfold dropSilent
    split
    · exact List.sublist_cons_self ..
    · exact ih.cons_cons p

/-- R17: the greatest age that the fold over the table has met is that of a SILENT entry, or the one it began with. -/
theorem oldestSilent_mem (l : List Peer) (age : Nat) (h : oldestSilent l = some age) : ∃ p ∈ l, p.state = .silent ∧ p.age = age := by
  induction l using List.reverseRecOn generalizing age with
  | nil => simp [oldestSilent] at h
  | append_singleton l p ih =>
    unfold oldestSilent at h ih
    rw [List.foldl_append, List.foldl_cons, List.foldl_nil] at h
    split at h
    · rename_i hp
      split at h
      · exact ⟨p, by simp, hp, by simpa using h⟩
      · rename_i a ha
        obtain ⟨q, hq, hs, hage⟩ := ih a ha
        simp only [Option.some.injEq] at h
        rcases le_total a p.age with hle | hle
        · exact ⟨p, by simp, hp, by omega⟩
        · exact ⟨q, by simp [hq], hs, by omega⟩
    · obtain ⟨q, hq, hs, hage⟩ := ih age h
      exact ⟨q, by simp [hq], hs, hage⟩

theorem length_dropSilent (age : Nat) (l : List Peer) (h : ∃ p ∈ l, p.state = .silent ∧ p.age = age) :
    (dropSilent age l).length + 1 = l.length := by
  induction l with
  | nil => simp at h
  | cons p rest ih =>
    unfold dropSilent
    split
    · rfl
    · rename_i hp
      obtain ⟨q, hq, hs⟩ := h
      obtain rfl | hq := List.mem_cons.1 hq
      · exact absurd hs hp
      · simp [ih ⟨q, hq, hs⟩]

/-- R16, R17: the table stays within its length and holds no station twice. -/
theorem peersHold_tableWith (p : Peer) (l l' : List Peer) (hl : tableWith p l = some l') (h : peersHold l) : peersHold l' := by
  obtain ⟨hlen, hnodup⟩ := h
  simp only [Config.peerMax] at hlen
  have hnew (m : List Peer) (hm : m.Sublist l) (hp : ¬l.any (fun q => decide (q.station = p.station)) = true) :
      ((m ++ [p]).map Peer.station).Nodup := by
    rw [List.map_append, List.map_singleton, List.nodup_append]
    refine ⟨hnodup.sublist (hm.map _), by simp, ?_⟩
    simp only [List.any_eq_true, decide_eq_true_eq, not_exists, not_and] at hp
    simp only [List.mem_map, List.mem_singleton]
    rintro _ ⟨q, hq, rfl⟩ _ rfl
    exact hp q (hm.subset hq)
  unfold tableWith at hl
  split at hl
  · obtain rfl : _ = l' := by simpa using hl
    refine ⟨by simpa [Config.peerMax] using hlen, ?_⟩
    have hsame : (l.map (fun q => if q.station = p.station then p else q)).map Peer.station = l.map Peer.station := by
      rw [List.map_map]
      refine List.map_congr_left fun q _ => ?_
      simp only [Function.comp_apply]
      split
      · rename_i heq; exact heq.symm
      · rfl
    rw [hsame]
    exact hnodup
  · rename_i hp
    split at hl
    · rename_i hlt
      obtain rfl : _ = l' := by simpa using hl
      simp only [Config.peerMax] at hlt
      refine ⟨?_, hnew l (.refl l) hp⟩
      simp only [List.length_append, List.length_singleton, Config.peerMax]
      omega
    · split at hl
      · exact nomatch hl
      · rename_i age hage
        obtain rfl : _ = l' := by simpa using hl
        refine ⟨?_, hnew _ (dropSilent_sublist age l) hp⟩
        have hdrop := length_dropSilent age l (oldestSilent_mem l age hage)
        simp only [List.length_append, List.length_singleton, Config.peerMax]
        omega

theorem tablePeer_evolves (p : Peer) (s : State) : Evolves k s (tablePeer p s) := by
  unfold tablePeer
  split
  · rename_i l hl
    exact Change.evolves (.peers _ (peersHold_tableWith p _ l hl))
  · exact bump_evolves ..

theorem beaconChecked_inRange (b : BeaconBody) (source : Nat) (role : Role) (h : beaconChecked b source = some role) :
    b.stamp.inRange = true := by
  unfold beaconChecked at h
  split at h
  · exact nomatch h
  · split at h
    · rename_i hok
      exact (Bool.and_eq_true _ _ ▸ hok).2
    · exact nomatch h

theorem compareClock_evolves (b : BeaconBody) (ownSet : Bool) (d : Int) (s : State) (hw : b.stamp.week < 65536)
    (hr : b.stamp.inRange = true) : Evolves k s (compareClock b ownSet d s) :=
  evolves_ite (fun _ => (bump_evolves _ _).after (stepClock_evolves _ _ _ hw hr)) (fun _ => .refl)

theorem hearBeacon_evolves (s : State) : Evolves k s (hearBeacon s) := by
  unfold hearBeacon
  split
  · exact .refl
  · rename_i f rest hrx
    refine evolves_ite (fun _ => Evolves.after ?_ (taken_evolves s f rest hrx)) (fun _ => .refl)
    unfold takeBeacon
    split
    · exact bump_evolves ..
    · rename_i role hrole
      exact (compareClock_evolves _ _ _ _ (getStamp_week_lt f.body 3) (beaconChecked_inRange _ _ role hrole)).after
        (tablePeer_evolves ..)

theorem elapsedSecondTick_evolves (s : State) : Evolves k s (elapsedSecondTick s) := by
  refine evolves_ite (fun _ => Evolves.trans (Change.evolves (.timebase
    { s.timebase with secondTicksDue := s.timebase.secondTicksDue - 1 })) (Change.evolves (.peers _ fun h => ?_))) (fun _ => .refl)
  have hstations : (s.peers.entries.map Peer.aged).map Peer.station = s.peers.entries.map Peer.station := by
    rw [List.map_map]
    rfl
  exact ⟨by simpa using h.1, by simpa only [hstations] using h.2⟩

theorem duplicateHoldExpiry_evolves (s : State) : Evolves k s (duplicateHoldExpiry s) := by
  unfold duplicateHoldExpiry
  split
  · exact .refl
  · exact evolves_ite (fun _ => Change.evolves (.peers _ id)) (fun _ => .refl)

theorem beaconDue_evolves (s : State) : Evolves k s (beaconDue s) := by
  unfold beaconDue
  split
  · exact .refl
  · rename_i b _
    have hagain : Evolves k s { s with peers := { s.peers with beacon := some b.again } } := Change.evolves (.peers _ id)
    exact evolves_ite
      (fun _ => evolves_ite (fun _ => (bump_evolves _ _).after hagain) (fun _ => (offer_evolves _ _ _).after hagain))
      (fun _ => .refl)

/-! ### The readers and the panel -/

theorem joinWaiting_evolves (r : Reader) (badge : Nat) (s : State) : Evolves k s (joinWaiting r badge s) := by
  refine evolves_ite (fun hlt => ?_) (fun _ => refuseRead_evolves ..)
  have hcap : waitingCapacity s ≤ 4 := by
    unfold waitingCapacity Config.rushCapacity Config.plainCapacity
    split <;> omega
  have hjoined : Evolves k s { s with waiting := s.waiting ++ [{ reader := r, badge := badge, readAt := s.now, held := false }] } :=
    Change.evolves (.waiting _ fun _ => by simp only [List.length_append, List.length_singleton]; omega)
  exact evolves_ite (fun _ => (testHead_evolves _).after hjoined) (fun _ => hjoined)

theorem testRead_evolves (r : Reader) (x : ReadInProgress) (s : State) : Evolves k s (testRead r x s) :=
  evolves_ite (fun _ => refuseAtChannel_evolves ..) fun _ => evolves_ite (fun _ => refuseAtChannel_evolves ..) fun _ =>
    evolves_ite (fun _ => bump_evolves ..) fun _ => joinWaiting_evolves ..

theorem readEnd_evolves (r : Reader) (s : State) : Evolves k s (readEnd r s) := by
  unfold readEnd
  split
  · exact .refl
  · exact evolves_ite (fun _ => (testRead_evolves _ _ _).after (setChannel_evolves r _ s rfl)) (fun _ => .refl)

theorem qualifiedPulse_evolves (r : Reader) (rail : Rail) (o : Bool) (s : State) : Evolves k s (qualifiedPulse r rail o s) :=
  evolves_ite (fun _ => setChannel_evolves r _ s rfl) (fun _ => .refl)

theorem railStuck_evolves (r : Reader) (rail : Rail) (s : State) : Evolves k s (railStuck r rail s) :=
  evolves_ite (fun _ => setChannel_evolves r _ s rfl) (fun _ => .refl)

theorem suppressionExpiry_evolves (r : Reader) (s : State) : Evolves k s (suppressionExpiry r s) := by
  unfold suppressionExpiry
  split
  · exact .refl
  · rename_i e rest he
    refine evolves_ite (fun _ => Change.evolves (.channel r _ fun h => ?_)) (fun _ => .refl)
    rw [he] at h
    exact ⟨(Nat.le_succ _).trans h.1, (List.nodup_cons.1 h.2).2⟩

theorem takeTimedOut_length (now : Nat) (l : List WaitEntry) (w : WaitEntry) (rest : List WaitEntry)
    (h : takeTimedOut now l = some (w, rest)) : rest.length + 1 = l.length := by
  induction l generalizing rest with
  | nil => exact nomatch h
  | cons v l ih =>
    unfold takeTimedOut at h
    split at h
    · obtain ⟨-, rfl⟩ : v = w ∧ l = rest := by simpa using h
      rfl
    · obtain ⟨⟨w', rest'⟩, hrec, heq⟩ := Option.map_eq_some_iff.1 h
      obtain ⟨rfl, rfl⟩ : w' = w ∧ v :: rest' = rest := by simpa using heq
      simp [ih rest' hrec]

theorem waitTimeout_evolves (s : State) : Evolves k s (waitTimeout s) := by
  refine evolves_ite (fun _ => ?_) (fun _ => .refl)
  split
  · exact .refl
  · rename_i w rest hw
    have hlen := takeTimedOut_length _ _ _ _ hw
    have hrefused : Evolves k s (refuseRead w.reader w.badge .waitTimeout { s with waiting := rest }) :=
      (refuseRead_evolves _ _ _ _).after (Change.evolves (.waiting rest fun _ => by omega))
    exact evolves_ite (fun _ => (testHead_evolves _).after hrefused) (fun _ => hrefused)

theorem indicationExpiry_evolves (r : Reader) (s : State) : Evolves k s (indicationExpiry r s) := by
  unfold indicationExpiry
  split
  · exact .refl
  · exact evolves_ite (fun _ => setChannel_evolves r _ s rfl) (fun _ => .refl)

theorem toneEnd_evolves (r : Reader) (s : State) : Evolves k s (toneEnd r s) := by
  unfold toneEnd
  split
  · exact .refl
  · exact evolves_ite (fun _ => setChannel_evolves r _ s rfl) (fun _ => .refl)

theorem panelOverlayExpiry_evolves (s : State) : Evolves k s (panelOverlayExpiry s) := by
  unfold panelOverlayExpiry
  split
  · exact .refl
  · exact evolves_ite (fun _ => Change.evolves (.panel _)) (fun _ => .refl)

theorem panelTransferComplete_evolves (s : State) : Evolves k s (panelTransferComplete s) :=
  evolves_ite (fun _ => Change.evolves (.panel _)) (fun _ => .refl)

end Sys2Proof.Machine

/-! PROOFS. Every command is a sequence of changes, continued: the requests, the gate, the starts, and the commands together. -/

namespace Sys2Proof.Machine

variable {k : Nat}

/-! ### Requests -/

theorem badRequest_evolves (r : Request) (s : State) : Evolves k s (badRequest r s) :=
  evolves_ite (fun _ => offerReply_evolves ..) (fun _ => bump_evolves ..)

theorem sendAnswer_evolves (r : Request) (x : Answer) : Evolves k x.1 (sendAnswer r x) := by
  unfold sendAnswer
  split
  · exact .refl
  · exact evolves_ite (fun _ => offerReply_evolves ..) (fun _ => .refl)

/-- R152: a request whose owner, at the station with the request taken, makes changes alone, once its parameters are in range. -/
theorem serve_evolves_of_taken (kind : RequestKind) (s : State)
    (h : ∀ r rest, running s = true → kind.inRange r.params = true → Evolves k (taken s rest) (kind.apply r (taken s rest)).1) :
    Evolves k s (serve kind s) := by
  unfold serve
  split
  · exact .refl
  · rename_i f rest hrx
    refine evolves_ite (fun hhears => Evolves.after ?_ (taken_evolves s f rest hrx)) (fun _ => .refl)
    refine evolves_ite (fun _ => evolves_ite (fun _ => bump_evolves ..) fun _ => ?_) (fun _ => .refl)
    refine evolves_ite (fun _ => badRequest_evolves ..) fun hok => (sendAnswer_evolves _ _).after (h _ rest ?_ ?_)
    · exact (Bool.and_eq_true _ _ ▸ hhears).1
    · simpa using (not_or.1 hok).2

/-- R152: a request whose owner makes changes alone, once its parameters are in range. -/
theorem serve_evolves (kind : RequestKind) (s : State)
    (h : ∀ r t, kind.inRange r.params = true → Evolves k t (kind.apply r t).1) : Evolves k s (serve kind s) :=
  serve_evolves_of_taken kind s fun r _ _ hr => h r _ hr

theorem badgeOk_iff (p : List Byte) : badgeOk p = true ↔ 1 ≤ paramBadge p ∧ paramBadge p ≤ 16777214 := by
  simp [badgeOk, badgeInRange]

theorem enrolRecord_evolves (badge code cls : Nat) (addressed : Bool) (s : State) (hb : 1 ≤ badge ∧ badge ≤ 16777214)
    (hc : code ≤ 12) (hr : cls ≤ 7) : Evolves k s (enrolRecord badge code cls addressed s).1 := by
  unfold enrolRecord
  split
  · rename_i x hx
    refine roster_evolves _ s fun h => rosterHolds_put _ s ?_ h
    exact { h.2.2.1 x (mem_of_record hx).1 with shiftCode := hc, rateClass := hr }
  · rename_i hx
    split
    · exact roster_evolves _ s (rosterHolds_insert _ s (newRecord_holds badge code cls _ hb hc hr) hx ‹_›)
    · exact bumpIf_evolves ..

theorem barRecord_evolves (badge : Nat) (s : State) : Evolves k s (barRecord badge s).1 := by
  unfold barRecord
  split
  · exact .refl
  · rename_i x hx
    split
    · exact roster_evolves _ s fun h => rosterHolds_put _ s { h.2.2.1 x (mem_of_record hx).1 with } h
    all_goals exact .refl

theorem unbarRecord_evolves (badge : Nat) (s : State) : Evolves k s (unbarRecord badge s).1 := by
  unfold unbarRecord
  split
  · exact .refl
  · rename_i x hx
    split
    · exact roster_evolves _ s fun h => rosterHolds_put _ s { h.2.2.1 x (mem_of_record hx).1 with } h
    all_goals exact .refl

theorem withdrawRecord_evolves (badge : Nat) (s : State) : Evolves k s (withdrawRecord badge s).1 := by
  unfold withdrawRecord
  split
  · exact .refl
  · rename_i x hx
    split
    · exact roster_evolves _ s (rosterHolds_remove badge s)
    · exact roster_evolves _ s fun h => rosterHolds_put _ s { h.2.2.1 x (mem_of_record hx).1 with } h

theorem flagRecord_evolves (badge index : Nat) (s : State) (hi : index ≤ 8) : Evolves k s (flagRecord badge index s).1 := by
  unfold flagRecord
  split
  · exact .refl
  · rename_i x hx
    refine roster_evolves _ s fun h => rosterHolds_put _ s { h.2.2.1 x (mem_of_record hx).1 with message := ?_ } h
    intro m hm
    split at hm
    · exact nomatch hm
    · obtain rfl : index = m := by simpa using hm
      omega

theorem collectWeek_evolves (week : Nat) (s : State) : Evolves k s (collectWeek week s).1 :=
  roster_evolves _ s (rosterHolds_map _ s (markCollected_badge week) (fun _ _ hx => hx.markCollected week))

theorem ringNowRing_evolves (p : Pattern) (addressed : Bool) (s : State) : Evolves k s (ringNowRing p addressed s).1 := by
  unfold ringNowRing
  split
  · exact bumpIf_evolves ..
  · exact ringJoin_evolves _ s (by simpa using ‹¬ringsFull s = true›)

theorem bellTestAnswer_evolves (r : Request) (s : State) : Evolves k s (bellTestAnswer r s).1 := by
  unfold bellTestAnswer beginTest
  split
  · rename_i t ht
    split at ht
    · obtain rfl : _ = t := by simpa using ht
      exact bell_evolves _ s id
    · exact nomatch ht
  · exact .refl

theorem requestInvalid_evolves (s : State) : Evolves k s (requestInvalid s) := by
  unfold requestInvalid
  split
  · exact .refl
  · rename_i f rest hrx
    refine evolves_ite (fun _ => Evolves.after ?_ (taken_evolves s f rest hrx)) (fun _ => .refl)
    exact evolves_ite (fun _ => .refl) fun _ => evolves_ite (fun _ => badRequest_evolves ..) fun _ => bump_evolves ..

/-! ### The gate and the pending punch -/

section Gate
variable (hk : 1 ≤ k)
include hk

theorem enterCycle_evolves (c : Cycle) (s : State) (hr : c ≠ .released) (hp : c ≠ .passing) : Evolves k s (enterCycle c s) :=
  Change.evolves (.gate hk _ fun _ => by simp [Gate.timersHold, hr, hp])

theorem enterDeciding_evolves (c : Cycle) (s : State) (hr : c ≠ .released) (hp : c ≠ .passing) :
    Evolves k s (enterDeciding c s) := (testHead_evolves _).after (enterCycle_evolves hk c s hr hp)

theorem enterReleased_evolves (s : State) : Evolves k s (enterReleased s) :=
  Change.evolves (.gate hk _ fun _ => by simp [Gate.timersHold])

theorem enterPassing_evolves (s : State) : Evolves k s (enterPassing s) :=
  Change.evolves (.gate hk _ fun _ => by simp [Gate.timersHold])

theorem gateInitial_evolves (s : State) (from_ : Option Nat) : Evolves k s { s with gate := { Gate.initial with sampleFrom := from_ } } :=
  Change.evolves (.gate hk _ fun _ => by simp [Gate.timersHold, Gate.initial])

theorem releaseGate_evolves (o : JournalOutcome) (s : State) (h : o.isAdmitted = false) : Evolves k s (releaseGate o s) :=
  (writeGateEntry_evolves o _ h).after (enterReleased_evolves hk s)

theorem enterHeldOpen_evolves (s : State) : Evolves k s (writeGateEntry .heldOpen (enterCycle .heldOpen s)) :=
  (writeGateEntry_evolves _ _ rfl).after (enterCycle_evolves hk _ s (by decide) (by decide))

omit hk in
theorem commitPunch_evolves (h2 : 2 ≤ k) (p : PendingPunch) (stamp : Stamp) (s : State) : Evolves k s (commitPunch p stamp s) := by
  have hjournal (n : PunchNotice) (t : State) :
      Evolves k t (writeJournal stamp (some p.reader) (some p.badge) (admittedOutcome n.direction) .queued (some n.flags) t) := by
    have hadmitted : (admittedOutcome n.direction).isAdmitted = true := by cases n.direction <;> rfl
    exact writeJournal_evolves _ _ _ _ _ _ _ (by simp [hadmitted]) (by simp [hadmitted])
  have hnotice (n : PunchNotice) (t : State) : Evolves k t (reservationToNotice n t) := Change.evolves (.reservations h2 _ id)
  exact Evolves.after (Change.evolves (.pendingPunch h2 none)) ((hnotice _ _).after ((deliverMessage_evolves _ _).after
    ((hjournal _ _).after (commitRoster_evolves p stamp s))))

omit hk in
theorem reportPassage_evolves (h2 : 2 ≤ k) (s : State) : Evolves k s (reportPassage s) := by
  unfold reportPassage
  split
  · exact .refl
  · split
    · exact commitPunch_evolves h2 ..
    · exact .refl
    · exact Evolves.after (Change.evolves (.pendingPunch h2 none))
        (writeJournal_evolves _ _ _ _ _ _ s (by simp [JournalOutcome.isAdmitted]) (by simp [JournalOutcome.isAdmitted]))

omit hk in
theorem withdrawPending_evolves (h2 : 2 ≤ k) (s : State) : Evolves k s (withdrawPending s) := by
  unfold withdrawPending
  split
  · exact .refl
  · refine Evolves.after (Change.evolves (.pendingPunch h2 none)) (Evolves.after
      (writeJournal_evolves _ _ _ _ _ _ _ (by simp [JournalOutcome.isAdmitted]) (by simp [JournalOutcome.isAdmitted])) ?_)
    split
    · exact Change.evolves (.reservations h2 _ id)
    · exact .refl

theorem inputsEstablished_evolves (s : State) : Evolves k s (inputsEstablished s) :=
  evolves_ite
    (fun _ => evolves_ite (fun _ => enterDeciding_evolves hk _ s (by decide) (by decide)) fun _ =>
      evolves_ite (fun _ => enterHeldOpen_evolves hk s) fun _ => enterDeciding_evolves hk _ s (by decide) (by decide))
    (fun _ => .refl)

omit hk in
theorem takeDoor_evolves (level : Bool) (effect : State → State) (h : ∀ t, Evolves k t (effect t)) (s : State) :
    Evolves k s (takeDoor level effect s) := by
  refine evolves_ite (fun _ => ?_) (fun _ => .refl)
  split
  · exact .refl
  · rename_i i early _
    have hinput : Evolves k s { s with gate := { s.gate with door := i } } := Change.evolves (.inputs _ rfl rfl rfl)
    exact evolves_ite (fun _ => hinput) (fun _ => (h _).after hinput)

omit hk in
theorem doorOpens_evolves (h2 : 2 ≤ k) (s : State) : Evolves k s (doorOpens s) := by
  refine takeDoor_evolves true _ (fun t => ?_) s
  unfold takeDoorOpens
  split
  · exact (writeGateEntry_evolves _ _ rfl).after (enterCycle_evolves (by omega) _ t (by decide) (by decide))
  · exact (reportPassage_evolves h2 _).after (enterPassing_evolves (by omega) t)
  all_goals exact .refl

theorem doorCloses_evolves (s : State) : Evolves k s (doorCloses s) := by
  refine takeDoor_evolves false _ (fun t => ?_) s
  unfold takeDoorCloses
  split
  iterate 3 exact enterDeciding_evolves hk _ t (by decide) (by decide)
  all_goals exact .refl

theorem exitButtonPress_evolves (s : State) : Evolves k s (exitButtonPress s) := by
  refine evolves_ite (fun _ => ?_) (fun _ => .refl)
  split
  · exact .refl
  · rename_i i early _
    have hinput : Evolves k s { s with gate := { s.gate with button := i } } := Change.evolves (.inputs _ rfl rfl rfl)
    exact evolves_ite (fun _ => hinput)
      (fun _ => Evolves.after (evolves_ite (fun _ => releaseGate_evolves hk _ _ rfl) (fun _ => .refl)) hinput)

theorem remoteReleaseGate_evolves (s : State) : Evolves k s (remoteReleaseGate s).1 := by
  unfold remoteReleaseGate
  split
  · exact releaseGate_evolves hk _ s rfl
  · exact .refl

omit hk in
theorem releaseTimerExpiry_evolves (h2 : 2 ≤ k) (s : State) : Evolves k s (releaseTimerExpiry s) :=
  evolves_ite
    (fun _ => (enterDeciding_evolves (by omega) _ _ (by decide) (by decide)).after (withdrawPending_evolves h2 s)) (fun _ => .refl)

theorem holdTimerExpiry_evolves (s : State) : Evolves k s (holdTimerExpiry s) :=
  evolves_ite (fun _ => evolves_ite (fun _ => enterPassing_evolves hk s) (fun _ => enterHeldOpen_evolves hk s)) (fun _ => .refl)

omit hk in
theorem takeAsserted_evolves (h2 : 2 ≤ k) (s : State) : Evolves k s (takeAsserted s) := by
  unfold takeAsserted
  split
  · exact (testHead_evolves _).after ((reportPassage_evolves h2 _).after (enterCycle_evolves (by omega) _ s (by decide) (by decide)))
  iterate 4 exact enterDeciding_evolves (by omega) _ s (by decide) (by decide)
  all_goals exact .refl

theorem takeReleased_evolves (s : State) : Evolves k s (takeReleased s) :=
  evolves_ite
    (fun _ => evolves_ite (fun _ => enterPassing_evolves hk s) (fun _ => enterDeciding_evolves hk _ s (by decide) (by decide)))
    (fun _ => .refl)

theorem unconfiguredCycle_evolves (asserted : Bool) (s : State) : Evolves k s (unconfiguredCycle asserted s) := by
  cases asserted <;> exact enterCycle_evolves hk _ s (by decide) (by decide)

omit hk in
theorem freePassageAsserted_evolves (h2 : 2 ≤ k) (s : State) : Evolves k s (freePassageAsserted s) := by
  unfold freePassageAsserted
  split
  · rename_i i early _
    have hinput : Evolves k s { s with gate := { s.gate with freePassage := i } } := Change.evolves (.inputs _ rfl rfl rfl)
    exact evolves_ite
      (fun _ => evolves_ite (fun _ => hinput) (fun _ => (takeAsserted_evolves h2 _).after hinput))
      (fun _ => evolves_ite (fun _ => (unconfiguredCycle_evolves (by omega) _ _).after hinput) (fun _ => .refl))
  · exact evolves_ite (fun _ => unconfiguredCycle_evolves (by omega) _ s) (fun _ => .refl)

theorem freePassageReleased_evolves (s : State) : Evolves k s (freePassageReleased s) := by
  unfold freePassageReleased
  split
  · rename_i i early _
    have hinput : Evolves k s { s with gate := { s.gate with freePassage := i } } := Change.evolves (.inputs _ rfl rfl rfl)
    exact evolves_ite
      (fun _ => evolves_ite (fun _ => hinput) (fun _ => (takeReleased_evolves hk _).after hinput))
      (fun _ => evolves_ite (fun _ => (unconfiguredCycle_evolves hk _ _).after hinput) (fun _ => .refl))
  · exact .refl

/-! ### Decisions -/

omit hk in
theorem startRelease_evolves (h2 : 2 ≤ k) (s : State) : Evolves k s (startRelease s) :=
  evolves_ite (fun _ => reportPassage_evolves h2 s) fun _ => evolves_ite (fun _ => enterReleased_evolves (by omega) s) fun _ =>
    (reportPassage_evolves h2 _).after (enterReleased_evolves (by omega) s)

omit hk in
theorem admitPunch_evolves (h2 : 2 ≤ k) (w : WaitEntry) (soft unpaired : Bool) (pr : Presence) (s : State) :
    Evolves k s (admitPunch w soft unpaired pr s) := by
  have hreserve : Evolves k s (reserve s) := Change.evolves (.reservations h2 _ id)
  exact (startRelease_evolves h2 _).after ((showResult_evolves _ _).after ((indicate_evolves _ _ _).after
    (Evolves.after (Change.evolves (.pendingPunch h2 _)) hreserve)))

omit hk in
theorem admitPassage_evolves (h2 : 2 ≤ k) (w : WaitEntry) (s : State) : Evolves k s (admitPassage w s) :=
  (startRelease_evolves h2 _).after ((showResult_evolves _ _).after ((indicate_evolves _ _ _).after
    (Change.evolves (.pendingPunch h2 _))))

omit hk in
theorem applyDecision_evolves (h2 : 2 ≤ k) (d : Decision) (w : WaitEntry) (s : State) : Evolves k s (applyDecision d w s) := by
  cases d with
  | refuse why => exact refuseRead_evolves ..
  | admission soft unpaired pr => exact (noteOutcome_evolves _ _ _).after (admitPunch_evolves h2 ..)
  | passage => exact (noteOutcome_evolves _ _ _).after (admitPassage_evolves h2 ..)

omit hk in
theorem decideHead_evolves (h2 : 2 ≤ k) (s : State) : Evolves k s (decideHead s) := by
  unfold decideHead
  split
  · exact .refl
  · rename_i w rest hw
    exact evolves_ite
      (fun _ => (testHead_evolves _).after ((applyDecision_evolves h2 _ _ _).after
        (Change.evolves (.waiting rest fun h => by rw [hw, List.length_cons] at h; omega))))
      (fun _ => testHead_evolves s)

/-! ### Starts -/

theorem starts_evolves (x : Starts) (s : State) (h : x.supply = s.starts.supply) : Evolves k s { s with starts := x } :=
  Change.evolves (.starts hk x h)

omit hk in
theorem clearChannels_evolves (s : State) : Evolves k s (clearChannels s) :=
  Evolves.trans (Change.evolves (.channel .entry Channel.empty fun _ => by simp [suppressionHolds, Channel.empty]))
    (Change.evolves (.channel .exit Channel.empty fun _ => by simp [suppressionHolds, Channel.empty]))

omit hk in
theorem stopLine_evolves (s : State) : Evolves k s (stopLine s) :=
  Evolves.after (line_evolves _ _ le_rfl rfl (by simp)) ((emptyTx_evolves _).after (line_evolves _ s le_rfl rfl le_rfl))

omit hk in
theorem silenceBell_evolves (s : State) : Evolves k s (silenceBell s) := bell_evolves _ s (by simp)

omit hk in
theorem stopBlocks_evolves (h2 : 2 ≤ k) (s : State) : Evolves k s (stopBlocks s) := by
  have hstopped := (withdrawPending_evolves h2 _).after (gateInitial_evolves (by omega) s none)
  have hempty : Evolves k s (clearChannels (stopLine (emptyWaiting (withdrawPending (stopGate s))))) :=
    (clearChannels_evolves _).after ((stopLine_evolves _).after
      (Evolves.after (Change.evolves (.waiting [] fun _ => by simp)) hstopped))
  exact Evolves.after (Change.evolves (.restart .none)) (Evolves.after (Change.evolves (.panel _))
    ((silenceBell_evolves _).after hempty))

omit hk in
theorem clearPeers_evolves (s : State) : Evolves k s (clearPeers s) :=
  Change.evolves (.peers _ fun _ => by simp [peersHold, PeerTable.initial])

omit hk in
theorem clearCounters_evolves (s : State) : Evolves k s (clearCounters s) := by
  refine Change.evolves (.counters _ fun _ => ⟨fun i => ?_, by rfl⟩)
  change (Vector.replicate 38 0)[i.val]'i.isLt ≤ _
  simp

omit hk in
theorem beginPanel_evolves (s : State) : Evolves k s (beginPanel s) := Change.evolves (.panel _)

omit hk in
theorem endRead_evolves (s : State) : Evolves k s (endRead s) :=
  (handAnnouncements_evolves _).after (beginPanel_evolves s)

theorem startPoint_evolves (s : State) : Evolves k s (startPoint s) := by
  have hline (t : State) : Evolves k t (beginLine t) := line_evolves _ t le_rfl rfl le_rfl
  exact (hline _).after (Evolves.after (Change.evolves (.peers _ id))
    ((gateInitial_evolves hk _ _).after (clearChannels_evolves s)))

theorem refuseImage_evolves (o : ReadOutcome) (s : State) : Evolves k s (refuseImage o s) := by
  have hrun : Evolves k s { s with starts := { s.starts with run := .unconfigured, waitSince := none, outcome := o } } :=
    starts_evolves hk _ s rfl
  exact (endRead_evolves _).after ((gateInitial_evolves hk _ _).after (Evolves.after (Change.evolves (.timebase _)) hrun))

theorem acceptImage_evolves (img : List Byte) (s : State) : Evolves k s (acceptImage img s) := by
  have hrun : Evolves k s { s with starts := { s.starts with run := .configured, waitSince := none, outcome := .accepted } } :=
    starts_evolves hk _ s rfl
  have hsettings : Evolves k s { s with
      starts := { s.starts with run := .configured, waitSince := none, outcome := .accepted }, settings := settingsOf img } :=
    Evolves.after (Change.evolves (.settings _)) hrun
  exact (endRead_evolves _).after ((startPoint_evolves hk _).after (Evolves.after (Change.evolves (.timebase _)) hsettings))

theorem configReadComplete_evolves (img : List Byte) (s : State) : Evolves k s (configReadComplete img s) := by
  refine evolves_ite (fun _ => ?_) (fun _ => .refl)
  split
  · exact acceptImage_evolves hk ..
  · exact .refl
  all_goals exact refuseImage_evolves hk ..

theorem tryNotAcknowledged_evolves (s : State) : Evolves k s (tryNotAcknowledged s) :=
  evolves_ite
    (fun _ => evolves_ite (fun _ => starts_evolves hk _ s rfl)
      (fun _ => (refuseImage_evolves hk _ _).after (starts_evolves hk _ s rfl)))
    (fun _ => .refl)

theorem configRetry_evolves (s : State) : Evolves k s (configRetry s) := by
  unfold configRetry
  split
  · exact .refl
  · exact evolves_ite (fun _ => starts_evolves hk _ s rfl) (fun _ => .refl)

theorem resetPinAsserted_evolves (s : State) : Evolves k s (resetPinAsserted s) := by
  have hline (t : State) : Evolves k t (cutLine t) := line_evolves _ t le_rfl rfl le_rfl
  exact evolves_ite
    (fun _ => Evolves.after (Change.evolves (.restart .none)) (Evolves.after (Change.evolves (.panel _)) ((hline _).after
      ((clearChannels_evolves _).after ((gateInitial_evolves hk _ none).after (starts_evolves hk _ s rfl))))))
    (fun _ => .refl)

omit hk in
theorem warmStart_evolves (h2 : 2 ≤ k) (s : State) : Evolves k s (warmStart s) :=
  evolves_ite
    (fun _ => Evolves.after (starts_evolves (by omega) _ _ rfl) ((clearPeers_evolves _).after ((closeRush_evolves _).after
      ((stopBlocks_evolves h2 _).after (Evolves.after (starts_evolves (by omega) _ _ rfl) ((clearCounters_evolves _).after
        (starts_evolves (by omega) _ s rfl)))))))
    (fun _ => .refl)

theorem mainSupplyRise_evolves (s : State) : Evolves k s (mainSupplyRise s) :=
  evolves_ite (fun _ => starts_evolves hk _ s rfl) (fun _ => .refl)

theorem mainSupplyDip_evolves (s : State) : Evolves k s (mainSupplyDip s) :=
  evolves_ite (fun _ => starts_evolves hk _ s rfl) (fun _ => .refl)

end Gate

theorem backupEntry_evolves (s : State) : Evolves 3 s (backupEntry s) :=
  evolves_ite
    (fun _ => Evolves.after (Change.evolves (.peers _ id)) ((stopBlocks_evolves (by omega) _).after
      (Change.evolves (.supply le_rfl _))))
    (fun _ => .refl)

theorem backupSupplyLost_evolves (s : State) : Evolves 3 s (backupSupplyLost s) :=
  evolves_ite (fun _ => Change.evolves (.blank le_rfl _)) (fun _ => .refl)

theorem coldStart_evolves (s : State) : Evolves 3 s (coldStart s) :=
  evolves_ite (fun _ => Change.evolves (.blank le_rfl State.reset.starts)) (fun _ => .refl)

theorem powerReturn_evolves (s : State) : Evolves 3 s (powerReturn s) := by
  have hcleared : Evolves 3 s (clearedAtReturn s) :=
    (clearPeers_evolves _).after ((closeRush_evolves _).after ((stopBlocks_evolves (by omega) _).after
      (Change.evolves (.supply le_rfl _))))
  refine evolves_ite (fun _ => ?_) (fun _ => .refl)
  split
  · exact (beginPanel_evolves _).after ((startPoint_evolves (by omega) _).after hcleared)
  · exact (beginPanel_evolves _).after ((gateInitial_evolves (by omega) _ _).after hcleared)
  · exact Evolves.after (starts_evolves (by omega) _ _ rfl) hcleared

/-! ### Every command -/

end Sys2Proof.Machine

/-- What a command may change at most: 3 the supply; 2 the pending punch and its reservations, but not the supply; 1 the release cycle
and the starts; 0 none of these. -/
def Sys2Proof.Instr.level : Instr → Nat
  | .coldStart | .backupEntry | .backupSupplyLost | .powerReturn => 3
  | .warmStart | .decideHead | .doorOpens | .freePassageAsserted | .releaseTimerExpiry => 2
  | .resetPinAsserted | .configRetry | .configReadComplete _ | .tryNotAcknowledged | .mainSupplyRise | .mainSupplyDip
  | .inputsEstablished | .doorCloses | .exitButtonPress | .freePassageReleased | .holdTimerExpiry | .remoteRelease => 1
  | _ => 0

namespace Sys2Proof.Machine

/-- What every command does is a sequence of changes of its level. -/
theorem exec_evolves (c : Instr) (s t : State) (h : exec c s = .next t) : Evolves c.level s t := by
  have hmeaning {u : State} (hu : Host.Outcome.next (φ := Fault) (ρ := Refusal) u = .next t) (he : Evolves c.level s u) :
      Evolves c.level s t := Host.Outcome.next.inj hu ▸ he
  cases c with
  | coldStart => exact hmeaning h (coldStart_evolves s)
  | resetPinAsserted => exact hmeaning h (resetPinAsserted_evolves le_rfl s)
  | warmStart => exact hmeaning h (warmStart_evolves le_rfl s)
  | configRetry => exact hmeaning h (configRetry_evolves le_rfl s)
  | configReadComplete image =>
    simp only [exec, execConfigReadComplete] at h
    split at h
    · exact hmeaning h (configReadComplete_evolves le_rfl image s)
    · exact nomatch h
  | backupEntry => exact hmeaning h (backupEntry_evolves s)
  | backupSupplyLost => exact hmeaning h (backupSupplyLost_evolves s)
  | powerReturn => exact hmeaning h (powerReturn_evolves s)
  | advance => exact hmeaning h (advance_evolves s)
  | elapsedSecondTick => exact hmeaning h (elapsedSecondTick_evolves s)
  | beaconDue => exact hmeaning h (beaconDue_evolves s)
  | duplicateHoldExpiry => exact hmeaning h (duplicateHoldExpiry_evolves s)
  | hearBeacon => exact hmeaning h (hearBeacon_evolves s)
  | hearPunch => exact hmeaning h (hearPunch_evolves s)
  | railStuck r rail => exact hmeaning h (railStuck_evolves r rail s)
  | readEnd r => exact hmeaning h (readEnd_evolves r s)
  | suppressionExpiry r => exact hmeaning h (suppressionExpiry_evolves r s)
  | waitTimeout => exact hmeaning h (waitTimeout_evolves s)
  | decideHead => exact hmeaning h (decideHead_evolves le_rfl s)
  | indicationExpiry r => exact hmeaning h (indicationExpiry_evolves r s)
  | toneEnd r => exact hmeaning h (toneEnd_evolves r s)
  | inputsEstablished => exact hmeaning h (inputsEstablished_evolves le_rfl s)
  | doorOpens => exact hmeaning h (doorOpens_evolves le_rfl s)
  | doorCloses => exact hmeaning h (doorCloses_evolves le_rfl s)
  | exitButtonPress => exact hmeaning h (exitButtonPress_evolves le_rfl s)
  | freePassageAsserted => exact hmeaning h (freePassageAsserted_evolves le_rfl s)
  | freePassageReleased => exact hmeaning h (freePassageReleased_evolves le_rfl s)
  | releaseTimerExpiry => exact hmeaning h (releaseTimerExpiry_evolves le_rfl s)
  | holdTimerExpiry => exact hmeaning h (holdTimerExpiry_evolves le_rfl s)
  | hearRing => exact hmeaning h (hearRing_evolves s)
  | strokeEnd => exact hmeaning h (strokeEnd_evolves s)
  | strokeShortCut => exact hmeaning h (strokeShortCut_evolves s)
  | gapEnd => exact hmeaning h (gapEnd_evolves s)
  | pauseEnd => exact hmeaning h (pauseEnd_evolves s)
  | characterReceived cells => exact hmeaning h (characterReceived_evolves cells s)
  | sendAttemptStart => exact hmeaning h (sendAttemptStart_evolves s)
  | enrol =>
    refine hmeaning h (serve_evolves enrolKind s fun r u hr => ?_)
    simp only [enrolKind, Bool.and_eq_true, badgeOk_iff, decide_eq_true_eq] at hr
    exact enrolRecord_evolves _ _ _ _ u hr.1.1 hr.1.2 hr.2
  | bar => exact hmeaning h (serve_evolves barKind s fun r u _ => barRecord_evolves _ u)
  | unbar => exact hmeaning h (serve_evolves unbarKind s fun r u _ => unbarRecord_evolves _ u)
  | withdraw => exact hmeaning h (serve_evolves withdrawKind s fun r u _ => withdrawRecord_evolves _ u)
  | flag =>
    refine hmeaning h (serve_evolves flagKind s fun r u hr => ?_)
    simp only [flagKind, Bool.and_eq_true, decide_eq_true_eq] at hr
    exact flagRecord_evolves _ _ u hr.2
  | setMessage => exact hmeaning h (serve_evolves setMessageKind s fun r u _ => Change.evolves (.panel _))
  | setClock =>
    exact hmeaning h (serve_evolves setClockKind s fun r u hr => stepClock_evolves _ _ u (getStamp_week_lt r.params 0) hr)
  | ringNow => exact hmeaning h (serve_evolves ringNowKind s fun r u _ => ringNowRing_evolves _ _ u)
  | weekCollected => exact hmeaning h (serve_evolves weekCollectedKind s fun r u _ => collectWeek_evolves _ u)
  | remoteRelease => exact hmeaning h (serve_evolves remoteReleaseKind s fun r u _ => remoteReleaseGate_evolves le_rfl u)
  | bellTest => exact hmeaning h (serve_evolves bellTestKind s fun r u _ => bellTestAnswer_evolves r u)
  | readRecord => exact hmeaning h (serve_evolves readRecordKind s fun _ _ _ => .refl)
  | readTotals => exact hmeaning h (serve_evolves readTotalsKind s fun _ _ _ => .refl)
  | readJournal => exact hmeaning h (serve_evolves readJournalKind s fun _ _ _ => .refl)
  | readStatus => exact hmeaning h (serve_evolves readStatusKind s fun _ _ _ => .refl)
  | restart => exact hmeaning h (serve_evolves restartKind s fun r u _ => Change.evolves (.restart _))
  | requestInvalid => exact hmeaning h (requestInvalid_evolves s)
  | panelOverlayExpiry => exact hmeaning h (panelOverlayExpiry_evolves s)
  | panelTransferComplete => exact hmeaning h (panelTransferComplete_evolves s)
  | qualifiedPulse r rail o => exact hmeaning h (qualifiedPulse_evolves r rail o s)
  | millisecondTick pins => exact hmeaning h (millisecondTick_evolves pins s)
  | startBitConfirmed cell => exact hmeaning h (startBitConfirmed_evolves cell s)
  | characterTimeEnd => exact hmeaning h (characterTimeEnd_evolves s)
  | mainSupplyRise => exact hmeaning h (mainSupplyRise_evolves le_rfl s)
  | mainSupplyDip => exact hmeaning h (mainSupplyDip_evolves le_rfl s)
  | tryNotAcknowledged => exact hmeaning h (tryNotAcknowledged_evolves le_rfl s)

end Sys2Proof.Machine

/-! PROOFS. The invariants, each derived from the changes that a command makes. -/

namespace Sys2Proof.Machine

/-- A property that every command keeps, and that does not see the queue of commands, is kept by every step. -/
theorem step_keeps_of_exec {P : State → Prop} (hexec : ∀ c s t, P s → exec c s = .next t → P t)
    (hqueue : ∀ s rest, P s → P { s with pending := rest }) (s t : State) (hs : P s) (h : step s = .next t) : P t := by
  unfold step at h
  split at h
  · obtain rfl : s = t := Host.Outcome.next.inj h
    exact hs
  · exact hexec _ _ t (hqueue s _ hs) h

/-- A property that every change keeps, and that does not see the queue of commands, is kept by every step. -/
theorem step_keeps {P : State → Prop} (hP : ∀ k s t, P s → Change k s t → P t)
    (hqueue : ∀ s rest, P s → P { s with pending := rest }) (s t : State) : P s → step s = .next t → P t :=
  step_keeps_of_exec (fun c s t hs h => (exec_evolves c s t h).keeps (hP c.level) hs) hqueue s t

/-! ### The state after reset -/

theorem transmitQueueHolds_reset : transmitQueueHolds State.reset :=
  ⟨by decide, rfl, fun _ h => nomatch h⟩

theorem rosterHolds_reset : rosterHolds State.reset :=
  ⟨by decide, .nil, fun _ h => absurd h List.not_mem_nil, by unfold Clock.inRange; decide⟩

theorem journalHolds_reset : journalHolds State.reset :=
  ⟨by decide, by decide, trivial, fun _ h => absurd h List.not_mem_nil⟩

theorem capacitiesHold_reset : capacitiesHold State.reset := by
  constructor
  case entryList | exitList => exact ⟨by decide, .nil⟩
  all_goals decide

theorem quietWithoutMain_reset : quietWithoutMain State.reset := fun h => absurd rfl h

/-! ### One change of any level -/

theorem Change.pending_eq {k : Nat} {s t : State} (h : Change k s t) : t.pending = s.pending := by
  cases h with
  | channel r x _ => exact setChannel_pending s r x
  | _ => rfl

/-- Settles O3: no change touches the queue. -/
theorem execKeepsTheQueue : Obligations.ExecKeepsTheQueue := by
  intro c s t h
  exact (exec_evolves c s t h).keeps (P := fun u => u.pending = s.pending) (fun u v hu hc => hc.pending_eq.trans hu) rfl

theorem Change.rosterHolds {k : Nat} {s t : State} (hs : rosterHolds s) (h : Change k s t) : Machine.rosterHolds t := by
  cases h with
  | roster x hx => exact hx hs
  | clock x hx =>
    obtain ⟨hlen, horder, hall, hclock⟩ := hs
    exact ⟨hlen, horder, hall, hx hclock⟩
  | channel r x _ => exact (rosterHolds_congr (setChannel_roster s r x) (setChannel_clock s r x)).2 hs
  | blank => exact (rosterHolds_congr rfl rfl).2 rosterHolds_reset
  | _ => exact hs

/-- Settles O57: the records by the operations on the roster, the clock by its ranges. -/
theorem rosterIsKept : Obligations.RosterIsKept :=
  step_keeps (fun _ _ _ => Change.rosterHolds) (fun _ _ h => h)

theorem Change.journalHolds {k : Nat} {s t : State} (hs : journalHolds s) (h : Change k s t) : Machine.journalHolds t := by
  cases h with
  | journal x hx => exact hx hs
  | channel r x _ => exact (journalHolds_congr (setChannel_journal s r x)).2 hs
  | blank => exact (journalHolds_congr rfl).2 journalHolds_reset
  | _ => exact hs

/-- Settles O58: entries are written and marked alone. -/
theorem journalIsKept : Obligations.JournalIsKept :=
  step_keeps (fun _ _ _ => Change.journalHolds) (fun _ _ h => h)

theorem Change.capacitiesHold {k : Nat} {s t : State} (hs : capacitiesHold s) (h : Change k s t) : Machine.capacitiesHold t := by
  cases h with
  | peers x hx => exact { hs with peers := hx hs.peers }
  | channel r x hx =>
    cases r with
    | entry => exact { hs with entryList := hx hs.entryList }
    | exit => exact { hs with exitList := hx hs.exitList }
  | waiting x hx => exact { hs with waiting := hx hs.waiting }
  | inputs x hc hr hh => exact { hs with release := by rw [hc, hr]; exact hs.release, hold := by rw [hc, hh]; exact hs.hold }
  | bell x hx => exact { hs with rings := hx hs.rings }
  | line x _ _ hx => exact { hs with rx := hx hs.rx }
  | counters x hx => exact { hs with counters := hx hs.counters }
  | gate _ x hx => exact { hs with release := (hx ⟨hs.release, hs.hold⟩).1, hold := (hx ⟨hs.release, hs.hold⟩).2 }
  | reservations _ x hx => exact { hs with rx := hx hs.rx }
  | blank => exact { capacitiesHold_reset with }
  | _ => exact { hs with }

/-- Settles O59: every list and counter by the changes of its own field. -/
theorem capacitiesAreKept : Obligations.CapacitiesAreKept :=
  step_keeps (fun _ _ _ => Change.capacitiesHold) (fun _ _ h => { h with })

end Sys2Proof.Machine

/-! PROOFS. A station without the main supply: it stands stopped, and no command but a start wakes it. -/

namespace Sys2Proof.Machine

/-- A stopped station without the main supply. -/
def dormant (s : State) : Prop := s.starts.supply ≠ .main ∧ stopped s

namespace dormant

variable {s : State}

theorem not_running (h : dormant s) : running s = false := by simp [running, h.1]

theorem not_unconfigured (h : dormant s) : unconfiguredMain s = false := by simp [unconfiguredMain, h.1]

theorem not_reading (h : dormant s) : readRuns s = false := by simp [readRuns, h.1]

theorem not_panelRuns (h : dormant s) : panelRuns s = false := by simp [panelRuns, h.1]

theorem channel_eq (h : dormant s) (r : Reader) : s.channel r = Channel.empty := by
  cases r
  · exact h.2.entryCh
  · exact h.2.exitCh

theorem rx_eq (h : dormant s) : s.line.rx = [] := h.2.frames.2.1

theorem tx_eq (h : dormant s) : s.line.tx = [] := h.2.frames.1

theorem quiet (h : dormant s) : quietWithoutMain s := fun _ => h.2

/-! ### What goes on without the main supply -/

theorem missEntry (h : dormant s) (i : Nat) : dormant (missEntry i s) := ⟨h.1, { h.2 with }⟩

theorem newDay (h : dormant s) (d : Bool) : dormant (newDay d s) := by
  cases d
  · exact h
  · exact ⟨h.1, { h.2 with }⟩

theorem rushAtAnnouncement (h : dormant s) (n : Nat) (b : Bool) : dormant (rushAtAnnouncement n b s) := by
  unfold Machine.rushAtAnnouncement
  split
  · exact h
  · split
    · exact ⟨h.1, { h.2 with }⟩
    · exact h

theorem fireDue (h : dormant s) (c : Stamp) : dormant (fireDue c s) := by
  unfold Machine.fireDue
  generalize dueEntries s c.minute = l
  induction l generalizing s with
  | nil => exact h
  | cons i rest ih =>
    refine ih ?_
    rw [dueEntry, h.not_running]
    exact h.missEntry i

theorem takeAdvance (h : dormant s) (a : Advance) : dormant (takeAdvance a s) := by
  have hweek : dormant (if a.weekChanged then rosterWeekChange a.week s else s) := by
    split
    · exact ⟨h.1, { h.2 with }⟩
    · exact h
  have hbell := ((hweek.newDay a.dayChanged).rushAtAnnouncement a.stamp.abs false).fireDue a.stamp
  have hshow (t : State) (ht : dormant t) : showClock a.minute t = t := by simp [showClock, ht.not_panelRuns]
  unfold Machine.takeAdvance bellAdvance
  rw [hshow _ hbell]
  exact hbell

theorem advance (h : dormant s) : dormant (advance s) := by
  unfold Machine.advance
  split
  · exact h
  · rename_i a rest _
    split
    · exact takeAdvance (s := { s with announcements := rest }) ⟨h.1, { h.2 with }⟩ a
    · exact h

theorem elapsedSecondTick (h : dormant s) : dormant (elapsedSecondTick s) := by
  unfold Machine.elapsedSecondTick
  split
  · exact ⟨h.1, { h.2 with beacon := by simp [h.2.beacon] }⟩
  · exact h

theorem duplicateHoldExpiry (h : dormant s) : dormant (duplicateHoldExpiry s) := by
  unfold Machine.duplicateHoldExpiry
  split
  · exact h
  · split
    · exact ⟨h.1, { h.2 with }⟩
    · exact h

theorem sampleInputs_eq (h : dormant s) (pins : Pins) : sampleInputs pins s = s := by
  simp [sampleInputs, h.not_running, h.not_unconfigured]

theorem senseBell_eq (h : dormant s) (pins : Pins) : senseBell pins s = s := by
  have hmoment : senseMoment s = false := by
    unfold senseMoment
    split
    · rfl
    · simp [h.not_running]
  simp [senseBell, hmoment]

theorem millisecondTick (h : dormant s) (pins : Pins) : dormant (millisecondTick pins s) := by
  unfold Machine.millisecondTick
  split
  · have hcount : dormant (countClock { s with timebase := s.timebase.tick }) := ⟨h.1, { h.2 with }⟩
    rw [hcount.sampleInputs_eq, hcount.senseBell_eq]
    exact hcount
  · unfold countSupply
    split
    · exact ⟨h.1, { h.2 with }⟩
    · exact h

theorem mainSupplyRise (h : dormant s) : dormant (mainSupplyRise s) := by
  unfold Machine.mainSupplyRise
  split
  · exact ⟨h.1, { h.2 with }⟩
  · exact h

theorem mainSupplyDip (h : dormant s) : dormant (mainSupplyDip s) := by
  unfold Machine.mainSupplyDip
  split
  · exact ⟨h.1, { h.2 with }⟩
  · exact h

end dormant

/-! ### The starts -/

theorem stopped_unpowered (s : State) : stopped (unpowered s) where
  cycle := rfl
  pending := rfl
  waiting := rfl
  entryCh := rfl
  exitCh := rfl
  frames := ⟨rfl, rfl, rfl, rfl⟩
  sounder := ⟨rfl, rfl, rfl⟩
  beacon := rfl
  restart := rfl
  panel := ⟨rfl, rfl⟩

theorem stopped_backup (s : State) : stopped (stopBeacon (stopBlocks s)) := by
  obtain ⟨j, k, n, h⟩ := stopBlocks_changes s
  rw [h]
  exact ⟨rfl, rfl, rfl, rfl, rfl, ⟨rfl, rfl, rfl, rfl⟩, ⟨rfl, rfl, rfl⟩, rfl, rfl, ⟨rfl, rfl⟩⟩

theorem stopBlocks_starts (s : State) : (stopBlocks s).starts = s.starts := by
  obtain ⟨j, k, n, h⟩ := stopBlocks_changes s
  rw [h]

theorem quietWithoutMain_coldStart {s : State} (h : quietWithoutMain s) : quietWithoutMain (coldStart s) := by
  unfold coldStart
  split
  · exact fun hsupply => absurd rfl hsupply
  · exact h

theorem quietWithoutMain_backupSupplyLost {s : State} (h : quietWithoutMain s) : quietWithoutMain (backupSupplyLost s) := by
  unfold backupSupplyLost
  split
  · exact fun _ => stopped_unpowered s
  · exact h

theorem quietWithoutMain_backupEntry {s : State} (h : quietWithoutMain s) : quietWithoutMain (backupEntry s) := by
  unfold backupEntry
  split
  · exact fun _ => stopped_backup _
  · exact h

theorem clearedAtReturn_starts (s : State) : (clearedAtReturn s).starts =
    { s.starts with supply := .main, mainUpSince := none, cause := .powerReturn } := by
  exact stopBlocks_starts { s with starts := { s.starts with supply := .main, mainUpSince := none, cause := .powerReturn } }

theorem quietWithoutMain_powerReturn {s : State} (h : quietWithoutMain s) : quietWithoutMain (powerReturn s) := by
  have hmain : (clearedAtReturn s).starts.supply = .main := by rw [clearedAtReturn_starts]
  unfold powerReturn
  split
  · split <;> exact fun hsupply => absurd hmain hsupply
  · exact h

/-! ### Every command -/

/-- A command that does not change the supply keeps a station in main power. -/
theorem Change.supply_eq {s t : State} {k : Nat} (hk : k ≤ 2) (h : Change k s t) : t.starts.supply = s.starts.supply := by
  cases h with
  | channel r x _ => rw [setChannel_starts]
  | starts _ x hx => exact hx
  | supply h2 _ => omega
  | blank h2 _ => omega
  | _ => rfl

theorem exec_keeps_supply (c : Instr) (s t : State) (hc : c.level ≤ 2) (h : exec c s = .next t) :
    t.starts.supply = s.starts.supply :=
  (exec_evolves c s t h).keeps (P := fun u => u.starts.supply = s.starts.supply)
    (fun _ _ hu hchange => (hchange.supply_eq hc).trans hu) rfl

/-- A dormant station serves no request. -/
theorem dormant.serve_eq {s : State} (h : dormant s) (k : RequestKind) : serve k s = s := by simp [serve, h.rx_eq]

/-- What the commands that do not change the supply do at a dormant station. -/
theorem dormant_exec (c : Instr) (s t : State) (hs : dormant s) (hc : c.level ≤ 2) (h : exec c s = .next t) : dormant t := by
  have hmeaning {u : State} (hu : Host.Outcome.next (φ := Fault) (ρ := Refusal) u = .next t) (he : dormant u) : dormant t :=
    Host.Outcome.next.inj hu ▸ he
  have hsame {u : State} (hu : Host.Outcome.next (φ := Fault) (ρ := Refusal) u = .next t) (he : u = s) : dormant t :=
    Host.Outcome.next.inj hu ▸ he ▸ hs
  have hrun := hs.not_running
  have hchannel (r : Reader) : channelEnabled s r = false := by simp [channelEnabled, hrun]
  cases c with
  | coldStart | backupEntry | backupSupplyLost | powerReturn => exact absurd hc (by decide)
  | advance => exact hmeaning h hs.advance
  | elapsedSecondTick => exact hmeaning h hs.elapsedSecondTick
  | duplicateHoldExpiry => exact hmeaning h hs.duplicateHoldExpiry
  | millisecondTick pins => exact hmeaning h (hs.millisecondTick pins)
  | mainSupplyRise => exact hmeaning h hs.mainSupplyRise
  | mainSupplyDip => exact hmeaning h hs.mainSupplyDip
  | resetPinAsserted => exact hsame h (by simp [resetPinAsserted, hs.1])
  | warmStart => exact hsame h (by simp [warmStart, warmStartDue, hs.1])
  | configRetry =>
    refine hsame h ?_
    unfold configRetry
    split
    · rfl
    · simp [hs.not_reading]
  | configReadComplete image =>
    simp only [exec, execConfigReadComplete] at h
    split at h
    · exact hsame h (by simp [configReadComplete, tryRuns, hs.not_reading])
    · exact nomatch h
  | tryNotAcknowledged => exact hsame h (by simp [tryNotAcknowledged, tryRuns, hs.not_reading])
  | beaconDue => exact hsame h (by simp [beaconDue, hs.2.beacon])
  | hearBeacon => exact hsame h (by simp [hearBeacon, hs.rx_eq])
  | hearPunch => exact hsame h (by simp [hearPunch, hs.rx_eq])
  | hearRing => exact hsame h (by simp [hearRing, hs.rx_eq])
  | requestInvalid => exact hsame h (by simp [requestInvalid, hs.rx_eq])
  | sendAttemptStart => exact hsame h (by simp [sendAttemptStart, hs.tx_eq])
  | railStuck r rail => exact hsame h (by simp [railStuck, hchannel])
  | qualifiedPulse r rail o => exact hsame h (by simp [qualifiedPulse, hchannel])
  | readEnd r => exact hsame h (by simp [readEnd, hs.channel_eq, Channel.empty])
  | suppressionExpiry r => exact hsame h (by simp [suppressionExpiry, hs.channel_eq, Channel.empty])
  | indicationExpiry r => exact hsame h (by simp [indicationExpiry, hs.channel_eq, Channel.empty])
  | toneEnd r => exact hsame h (by simp [toneEnd, hs.channel_eq, Channel.empty])
  | waitTimeout => exact hsame h (by simp [waitTimeout, hrun])
  | decideHead => exact hsame h (by simp [decideHead, hs.2.waiting])
  | inputsEstablished => exact hsame h (by simp [inputsEstablished, hrun])
  | doorOpens => exact hsame h (by simp [doorOpens, takeDoor, hrun])
  | doorCloses => exact hsame h (by simp [doorCloses, takeDoor, hrun])
  | exitButtonPress => exact hsame h (by simp [exitButtonPress, hrun])
  | freePassageAsserted =>
    refine hsame h ?_
    unfold freePassageAsserted
    split <;> simp [hrun, hs.not_unconfigured]
  | freePassageReleased =>
    refine hsame h ?_
    unfold freePassageReleased
    split <;> simp [hrun, hs.not_unconfigured]
  | releaseTimerExpiry => exact hsame h (by simp [releaseTimerExpiry, hrun])
  | holdTimerExpiry => exact hsame h (by simp [holdTimerExpiry, hrun])
  | strokeEnd => exact hsame h (by simp [strokeEnd, hrun])
  | strokeShortCut => exact hsame h (by simp [strokeShortCut, hrun])
  | gapEnd => exact hsame h (by simp [gapEnd, hrun])
  | pauseEnd => exact hsame h (by simp [pauseEnd, hrun])
  | characterReceived cells => exact hsame h (by simp [characterReceived, hrun])
  | startBitConfirmed cell => exact hsame h (by simp [startBitConfirmed, hrun])
  | characterTimeEnd => exact hsame h (by simp [characterTimeEnd, hrun])
  | panelOverlayExpiry => exact hsame h (by simp [panelOverlayExpiry, hs.2.panel.1])
  | panelTransferComplete => exact hsame h (by simp [panelTransferComplete, hs.not_panelRuns])
  | enrol | bar | unbar | withdraw | flag | setMessage | setClock | ringNow | weekCollected | remoteRelease | bellTest
  | readRecord | readTotals | readJournal | readStatus | restart => exact hsame h (hs.serve_eq _)

theorem quietWithoutMain_exec (c : Instr) (s t : State) (hs : quietWithoutMain s) (h : exec c s = .next t) :
    quietWithoutMain t := by
  have hmeaning {u : State} (hu : Host.Outcome.next (φ := Fault) (ρ := Refusal) u = .next t) (he : quietWithoutMain u) :
      quietWithoutMain t := Host.Outcome.next.inj hu ▸ he
  by_cases hc : c.level ≤ 2
  · intro hsupply
    have hdormant : dormant s := by
      rw [exec_keeps_supply c s t hc h] at hsupply
      exact ⟨hsupply, hs hsupply⟩
    exact (dormant_exec c s t hdormant hc h).2
  · cases c with
    | coldStart => exact hmeaning h (quietWithoutMain_coldStart hs)
    | backupEntry => exact hmeaning h (quietWithoutMain_backupEntry hs)
    | backupSupplyLost => exact hmeaning h (quietWithoutMain_backupSupplyLost hs)
    | powerReturn => exact hmeaning h (quietWithoutMain_powerReturn hs)
    | _ => exact absurd (by simp [Instr.level]) hc

theorem dormant.outputs_off {s : State} (h : dormant s) :
    releaseOutput s = false ∧ alarmOutput s = false ∧ bellOutput s = false ∧ lineDrive s = none := by
  refine ⟨?_, ?_, ?_, ?_⟩
  · simp [releaseOutput, h.2.cycle]
  · simp [alarmOutput, h.2.cycle]
  · simp [bellOutput, h.not_running]
  · simp [lineDrive, h.2.frames.2.2.1]

/-- Settles O60: the four commands that change the supply, then all the others at a dormant station. -/
theorem backupStaysQuiet : Obligations.BackupStaysQuiet := by
  intro s t hs h
  have ht : quietWithoutMain t :=
    step_keeps_of_exec quietWithoutMain_exec (fun _ _ hu hsupply => { hu hsupply with }) s t hs h
  exact ⟨ht, fun hsupply => dormant.outputs_off ⟨hsupply, ht hsupply⟩⟩

end Sys2Proof.Machine

/-! PROOFS. The transmit queue, its reservations and the pending punch. -/

namespace Sys2Proof.Machine

/-- No punch is pending, and none is reserved for. -/
def punchless (s : State) : Prop := s.pendingPunch = none ∧ s.line.reserved = 0 ∧ s.line.tx.length ≤ Config.txMax

/-- The queue and the reservations of a pending punch, whatever the release cycle. -/
def punchHeld (s : State) : Prop :=
  s.line.held ≤ Config.txMax ∧ s.line.reserved = reservationsOf s.pendingPunch ∧ ∀ p, s.pendingPunch = some p → p.stamped

theorem punchless.transmitQueueHolds {s : State} (h : punchless s) : transmitQueueHolds s := by
  obtain ⟨hpunch, hreserved, htx⟩ := h
  exact ⟨by omega, by rw [hpunch]; exact hreserved, fun p hp => by rw [hpunch] at hp; exact nomatch hp⟩

theorem transmitQueueHolds.punchHeld {s : State} (h : transmitQueueHolds s) : punchHeld s :=
  ⟨h.1, h.2.1, fun p hp => (h.2.2 p hp).1⟩

theorem punchHeld.punchless {s : State} (h : punchHeld s) (hpunch : s.pendingPunch = none) : punchless s := by
  obtain ⟨hheld, hreserved, -⟩ := h
  rw [hpunch] at hreserved
  exact ⟨hpunch, hreserved, by simp only [Line.held] at hheld; omega⟩

/-! ### The changes -/

theorem Change.transmitQueueHolds {s t : State} (hs : transmitQueueHolds s) (h : Change 0 s t) : Machine.transmitQueueHolds t := by
  cases h with
  | channel r x _ => cases r <;> exact hs
  | inputs x hc _ _ => exact ⟨hs.1, hs.2.1, fun p hp => by dsimp only; rw [hc]; exact hs.2.2 p hp⟩
  | line x hr ht _ => exact ⟨ht hs.1, hr.trans hs.2.1, hs.2.2⟩
  | gate hk | pendingPunch hk | reservations hk | starts hk | supply hk | blank hk => omega
  | _ => exact hs

theorem Change.punchless {k : Nat} {s t : State} (hk : k ≤ 1) (hs : punchless s) (h : Change k s t) : Machine.punchless t := by
  cases h with
  | channel r x _ => cases r <;> exact hs
  | line x hr ht _ =>
    obtain ⟨hpunch, hreserved, htx⟩ := hs
    have hheld := ht (by simp only [Line.held]; exact hreserved ▸ htx)
    exact ⟨hpunch, hr.trans hreserved, by simp only [Line.held] at hheld; exact Nat.le_trans (Nat.le_add_right ..) hheld⟩
  | pendingPunch hk | reservations hk | supply hk | blank hk => omega
  | _ => exact hs

theorem Evolves.transmitQueueHolds {s t : State} (h : Evolves 0 s t) (hs : transmitQueueHolds s) : Machine.transmitQueueHolds t :=
  h.keeps (fun _ _ => Change.transmitQueueHolds) hs

theorem Evolves.punchless {s t : State} (h : Evolves 1 s t) (hs : punchless s) : Machine.punchless t :=
  h.keeps (fun _ _ => Change.punchless le_rfl) hs

/-! ### The pending punch reported and withdrawn -/

theorem commitPunch_line (p : PendingPunch) (stamp : Stamp) (s : State) :
    ∃ n, (commitPunch p stamp s).line = (reservationToNotice n s).line := by
  obtain ⟨r, k, h⟩ := commitRoster_changes p stamp s
  unfold commitPunch
  simp only [h]
  obtain ⟨j, k', h⟩ := writeJournal_changes stamp (some p.reader) (some p.badge)
    (admittedOutcome (commitNotice p stamp (commitRoster p stamp s).2 s.journal.next).direction) .queued
    (some (commitNotice p stamp (commitRoster p stamp s).2 s.journal.next).flags) { s with roster := r, counters := k }
  simp only [h]
  obtain ⟨a, h⟩ := deliverMessage_changes (commitRoster p stamp s).2.message
    { s with roster := r, counters := k', journal := j }
  simp only [h]
  exact ⟨_, rfl⟩

theorem commitPunch_pendingPunch (p : PendingPunch) (stamp : Stamp) (s : State) : (commitPunch p stamp s).pendingPunch = none := rfl

/-- A pending PUNCH becomes a notice in place of its reservation. -/
theorem punchless_commitPunch {s : State} (h : punchHeld s) (p : PendingPunch) (stamp : Stamp) (hp : s.pendingPunch = some p)
    (hk : p.kind = .punch) : punchless (commitPunch p stamp s) := by
  obtain ⟨hheld, hreserved, -⟩ := h
  obtain ⟨n, hline⟩ := commitPunch_line p stamp s
  simp only [hp, reservationsOf, hk, if_true] at hreserved
  simp only [Line.held, hreserved] at hheld
  refine ⟨rfl, ?_, ?_⟩
  · rw [hline]
    simp [reservationToNotice, enqueue, unreserve, hreserved]
  · rw [hline]
    simpa [reservationToNotice, enqueue, unreserve] using hheld

theorem reservationsOf_passage {p : PendingPunch} (h : p.kind = .passage) : reservationsOf (some p) = 0 := by
  simp [reservationsOf, h]

theorem punchless_confirmNoPunch {s : State} (h : punchHeld s) (p : PendingPunch) (hp : s.pendingPunch = some p)
    (hk : p.kind = .passage) : punchless (confirmNoPunch p s) := by
  obtain ⟨hheld, hreserved, -⟩ := h
  rw [hp, reservationsOf_passage hk] at hreserved
  obtain ⟨j, k, hwrite⟩ := writeJournal_changes s.clock.stamp (some p.reader) (some p.badge) .passageNoPunch .none none s
  unfold confirmNoPunch
  rw [hwrite]
  exact ⟨rfl, hreserved, by simp only [Line.held] at hheld; dsimp only; omega⟩

theorem punchless_reportPassage {s : State} (h : punchHeld s) : punchless (reportPassage s) := by
  unfold reportPassage
  split
  · exact h.punchless ‹_›
  · rename_i p hp
    split
    · exact punchless_commitPunch h p _ hp ‹_›
    · have hstamp := h.2.2 p hp ‹_›
      rw [‹p.stamp = none›] at hstamp
      exact nomatch hstamp
    · exact punchless_confirmNoPunch h p hp ‹_›

theorem punchless_withdrawPending {s : State} (h : punchHeld s) : punchless (withdrawPending s) := by
  unfold withdrawPending
  split
  · exact h.punchless ‹_›
  · rename_i p hp
    obtain ⟨hheld, hreserved, -⟩ := h
    simp only [Line.held] at hheld
    have hwrite (u : State) := writeJournal_changes s.clock.stamp (some p.reader) (some p.badge) .withdrawn .none none u
    cases hk : p.kind with
    | punch =>
      obtain ⟨j, k, hwrite⟩ := hwrite (unreserve s)
      simp only [hp, reservationsOf, hk, if_true] at hreserved
      dsimp only
      rw [hwrite]
      exact ⟨rfl, by simp [unreserve, hreserved], by simp only [unreserve]; omega⟩
    | passage =>
      obtain ⟨j, k, hwrite⟩ := hwrite s
      rw [hp, reservationsOf_passage hk] at hreserved
      dsimp only
      rw [hwrite]
      exact ⟨rfl, hreserved, by dsimp only; omega⟩

/-- Where no release waits for its passage and the pin is not held, no punch is pending. -/
theorem transmitQueueHolds.punchless_of_cycle {s : State} (h : transmitQueueHolds s) (hpin : s.starts.pinHeld = false)
    (hcycle : s.gate.cycle ≠ .released) : punchless s := by
  refine h.punchHeld.punchless ?_
  cases hp : s.pendingPunch with
  | none => rfl
  | some p =>
    obtain hreleased | hheld := (h.2.2 p hp).2.2
    · exact absurd hreleased hcycle
    · rw [hpin] at hheld
      exact nomatch hheld

theorem pinHeld_of_running {s : State} (h : running s = true) : s.starts.pinHeld = false := by
  simp only [running, Bool.and_eq_true, Bool.not_eq_true'] at h
  exact h.1.2

/-- A station that is not configured has no pending punch. -/
theorem transmitQueueHolds.punchless_of_run {s : State} (h : transmitQueueHolds s) (hrun : s.starts.run ≠ .configured) :
    punchless s := by
  refine h.punchHeld.punchless ?_
  cases hp : s.pendingPunch with
  | none => rfl
  | some p => exact absurd (h.2.2 p hp).2.1 hrun

/-! ### The commands that go beyond inputs, frames and records -/

section
variable {s : State} (hs : transmitQueueHolds s)
include hs

theorem transmitQueueHolds_resetPinAsserted : transmitQueueHolds (resetPinAsserted s) := by
  unfold resetPinAsserted
  split
  · exact ⟨hs.1, hs.2.1, fun p hp => ⟨(hs.2.2 p hp).1, (hs.2.2 p hp).2.1, .inr rfl⟩⟩
  · exact hs

theorem transmitQueueHolds_configRetry : transmitQueueHolds (configRetry s) := by
  unfold configRetry
  split
  · exact hs
  · split <;> exact hs

theorem transmitQueueHolds_mainSupplyRise : transmitQueueHolds (mainSupplyRise s) := by
  unfold mainSupplyRise
  split <;> exact hs

theorem transmitQueueHolds_mainSupplyDip : transmitQueueHolds (mainSupplyDip s) := by
  unfold mainSupplyDip
  split <;> exact hs

theorem punchless_of_tryRuns (h : tryRuns s = true) : punchless s := by
  simp only [tryRuns, readRuns, Bool.and_eq_true, beq_iff_eq] at h
  exact hs.punchless_of_run (by rw [h.1.2]; decide)

theorem transmitQueueHolds_configReadComplete (img : List Byte) : transmitQueueHolds (configReadComplete img s) := by
  by_cases h : tryRuns s = true
  · exact ((configReadComplete_evolves le_rfl img s).punchless (punchless_of_tryRuns hs h)).transmitQueueHolds
  · simpa [configReadComplete, h] using hs

theorem transmitQueueHolds_tryNotAcknowledged : transmitQueueHolds (tryNotAcknowledged s) := by
  by_cases h : tryRuns s = true
  · exact ((tryNotAcknowledged_evolves le_rfl s).punchless (punchless_of_tryRuns hs h)).transmitQueueHolds
  · simpa [tryNotAcknowledged, h] using hs

/-! ### The release cycle -/

/-- R64: an input's event is taken, and with it the effect of a running station. -/
theorem transmitQueueHolds_takeDoor (level : Bool) (effect : State → State)
    (h : ∀ t, running t = true → transmitQueueHolds t → transmitQueueHolds (effect t)) :
    transmitQueueHolds (takeDoor level effect s) := by
  unfold takeDoor
  split
  · split
    · exact hs
    · split
      · exact hs
      · exact h _ ‹_› hs
  · exact hs

theorem transmitQueueHolds_takeDoorOpens (hrun : running s = true) : transmitQueueHolds (takeDoorOpens s) := by
  unfold takeDoorOpens
  split
  · rename_i hcycle
    have hgate : Evolves 1 s (writeGateEntry .forced (enterCycle .forced s)) :=
      (writeGateEntry_evolves _ _ rfl).after (enterCycle_evolves le_rfl _ s (by decide) (by decide))
    exact (hgate.punchless (hs.punchless_of_cycle (pinHeld_of_running hrun) (by simp [hcycle]))).transmitQueueHolds
  · exact (punchless_reportPassage (s := enterPassing s) hs.punchHeld).transmitQueueHolds
  all_goals exact hs

/-- R67: where no release waits for its passage, the cycle enters IDLE or FREE with no punch pending. -/
theorem transmitQueueHolds_enterDeciding (c : Cycle) (hrun : running s = true) (hcycle : s.gate.cycle ≠ .released)
    (hr : c ≠ .released) (hp : c ≠ .passing) : transmitQueueHolds (enterDeciding c s) :=
  ((enterDeciding_evolves le_rfl c s hr hp).punchless
    (hs.punchless_of_cycle (pinHeld_of_running hrun) hcycle)).transmitQueueHolds

theorem transmitQueueHolds_takeDoorCloses (hrun : running s = true) : transmitQueueHolds (takeDoorCloses s) := by
  unfold takeDoorCloses
  split
  iterate 3
    · rename_i hcycle
      exact transmitQueueHolds_enterDeciding hs _ hrun (by simp [hcycle]) (by decide) (by decide)
  all_goals exact hs

theorem transmitQueueHolds_inputsEstablished : transmitQueueHolds (inputsEstablished s) := by
  by_cases h : (running s && s.gate.cycle == .off && established s) = true
  · have hcycle : s.gate.cycle = .off := by simp_all
    have hrun : running s = true := by simp_all
    exact ((inputsEstablished_evolves le_rfl s).punchless
      (hs.punchless_of_cycle (pinHeld_of_running hrun) (by simp [hcycle]))).transmitQueueHolds
  · simpa [inputsEstablished, h] using hs

theorem transmitQueueHolds_takePress (hrun : running s = true) : transmitQueueHolds (takePress s) := by
  unfold takePress
  split
  · rename_i hcycle
    exact ((releaseGate_evolves le_rfl _ s rfl).punchless
      (hs.punchless_of_cycle (pinHeld_of_running hrun) (by simp [hcycle]))).transmitQueueHolds
  · exact hs

theorem transmitQueueHolds_exitButtonPress : transmitQueueHolds (exitButtonPress s) := by
  unfold exitButtonPress
  split
  · split
    · exact hs
    · split
      · exact hs
      · exact transmitQueueHolds_takePress hs ‹_›
  · exact hs

theorem transmitQueueHolds_remoteRelease : transmitQueueHolds (serve remoteReleaseKind s) := by
  by_cases hcycle : s.gate.cycle = .idle
  · by_cases hrun : running s = true
    · exact ((serve_evolves remoteReleaseKind s fun r u _ => remoteReleaseGate_evolves le_rfl u).punchless
        (hs.punchless_of_cycle (pinHeld_of_running hrun) (by simp [hcycle]))).transmitQueueHolds
    · refine (serve_evolves_of_taken remoteReleaseKind s fun r rest hhears _ => absurd hhears hrun).transmitQueueHolds hs
  · refine (serve_evolves_of_taken remoteReleaseKind s fun r rest _ _ => ?_).transmitQueueHolds hs
    have hwrong : remoteReleaseGate (taken s rest) = (taken s rest, .wrongState) := by simp [remoteReleaseGate, taken, hcycle]
    simp only [remoteReleaseKind, answer, hwrong]
    exact .refl

theorem transmitQueueHolds_releaseTimerExpiry : transmitQueueHolds (releaseTimerExpiry s) := by
  unfold releaseTimerExpiry
  split
  · exact ((enterDeciding_evolves le_rfl _ _ (by decide) (by decide)).punchless
      (punchless_withdrawPending hs.punchHeld)).transmitQueueHolds
  · exact hs

theorem transmitQueueHolds_holdTimerExpiry : transmitQueueHolds (holdTimerExpiry s) := by
  by_cases h : (running s && s.gate.cycle == .passing && timerDue s.gate.holdTimer s.now) = true
  · have hcycle : s.gate.cycle = .passing := by simp_all
    have hrun : running s = true := by simp_all
    exact ((holdTimerExpiry_evolves le_rfl s).punchless
      (hs.punchless_of_cycle (pinHeld_of_running hrun) (by simp [hcycle]))).transmitQueueHolds
  · simpa [holdTimerExpiry, h] using hs

theorem transmitQueueHolds_takeAsserted (hrun : running s = true) : transmitQueueHolds (takeAsserted s) := by
  unfold takeAsserted
  split
  · exact ((testHead_evolves _).punchless (punchless_reportPassage (s := enterCycle .free s) hs.punchHeld)).transmitQueueHolds
  iterate 4
    · rename_i hcycle
      exact transmitQueueHolds_enterDeciding hs _ hrun (by simp [hcycle]) (by decide) (by decide)
  all_goals exact hs

theorem transmitQueueHolds_takeReleased (hrun : running s = true) : transmitQueueHolds (takeReleased s) := by
  by_cases hcycle : s.gate.cycle = .free
  · exact ((takeReleased_evolves le_rfl s).punchless
      (hs.punchless_of_cycle (pinHeld_of_running hrun) (by simp [hcycle]))).transmitQueueHolds
  · simpa [takeReleased, hcycle] using hs

theorem transmitQueueHolds_unconfiguredCycle (asserted : Bool) (h : unconfiguredMain s = true) :
    transmitQueueHolds (unconfiguredCycle asserted s) := by
  simp only [unconfiguredMain, Bool.and_eq_true, beq_iff_eq] at h
  exact ((unconfiguredCycle_evolves le_rfl asserted s).punchless (hs.punchless_of_run (by rw [h.2]; decide))).transmitQueueHolds

theorem transmitQueueHolds_freePassageAsserted : transmitQueueHolds (freePassageAsserted s) := by
  unfold freePassageAsserted
  split
  · rename_i i early _
    have hinput : transmitQueueHolds { s with gate := { s.gate with freePassage := i } } := hs
    split
    · split
      · exact hinput
      · exact transmitQueueHolds_takeAsserted hinput ‹_›
    · split
      · exact transmitQueueHolds_unconfiguredCycle hinput _ ‹_›
      · exact hs
  · split
    · rename_i h
      simp only [Bool.and_eq_true] at h
      exact transmitQueueHolds_unconfiguredCycle hs _ h.1.1
    · exact hs

theorem transmitQueueHolds_freePassageReleased : transmitQueueHolds (freePassageReleased s) := by
  unfold freePassageReleased
  split
  · rename_i i early _
    have hinput : transmitQueueHolds { s with gate := { s.gate with freePassage := i } } := hs
    split
    · split
      · exact hinput
      · exact transmitQueueHolds_takeReleased hinput ‹_›
    · split
      · exact transmitQueueHolds_unconfiguredCycle hinput _ ‹_›
      · exact hs
  · exact hs

end

/-! ### Decisions -/

/-- R69, R80, R81: an admission's release keeps the punch pending in RELEASED, or reports its passage at once. -/
theorem transmitQueueHolds_startRelease {s : State} (h : punchHeld s) (hrun : s.starts.run = .configured) :
    transmitQueueHolds (startRelease s) := by
  unfold startRelease
  split
  · exact (punchless_reportPassage h).transmitQueueHolds
  · split
    · exact ⟨h.1, h.2.1, fun p hp => ⟨h.2.2 p hp, hrun, .inl rfl⟩⟩
    · exact (punchless_reportPassage (s := enterReleased s) h).transmitQueueHolds

theorem run_of_running {s : State} (h : running s = true) : s.starts.run = .configured := by
  simp only [running, Bool.and_eq_true, beq_iff_eq] at h
  exact h.2

theorem punchHeld_congr {s t : State} (hline : t.line = s.line) (hpunch : t.pendingPunch = s.pendingPunch) (h : punchHeld s) :
    punchHeld t := by
  simp only [punchHeld, hline, hpunch]
  exact h

/-- R55: where a slot is free and no punch is pending, the admission of a punch takes its reservation. -/
theorem transmitQueueHolds_admitPunch {s : State} (h : punchless s) (hrun : s.starts.run = .configured) (hspace : 1 ≤ txSpace s)
    (w : WaitEntry) (soft unpaired : Bool) (presence : Presence) : transmitQueueHolds (admitPunch w soft unpaired presence s) := by
  obtain ⟨-, hreserved, -⟩ := h
  obtain ⟨e, x, hindicate⟩ := indicate_changes w.reader true
    { reserve s with pendingPunch := some (pendingOf w s.clock.stamp soft unpaired presence) }
  obtain ⟨p, hshow⟩ := showResult_changes (admissionText (readerDirection w.reader) s.clock.stamp) (indicate w.reader true
    { reserve s with pendingPunch := some (pendingOf w s.clock.stamp soft unpaired presence) })
  unfold admitPunch
  dsimp only
  rw [hshow, hindicate]
  refine transmitQueueHolds_startRelease ⟨?_, ?_, ?_⟩ hrun
  · simp only [txSpace] at hspace
    simp only [Line.held, reserve]
    omega
  · simp [reserve, hreserved, reservationsOf, pendingOf]
  · rintro q ⟨⟩ -
    rfl

theorem transmitQueueHolds_admitPassage {s : State} (h : punchless s) (hrun : s.starts.run = .configured) (w : WaitEntry) :
    transmitQueueHolds (admitPassage w s) := by
  obtain ⟨-, hreserved, htx⟩ := h
  obtain ⟨e, x, hindicate⟩ := indicate_changes w.reader true { s with pendingPunch := some (passageOf w) }
  obtain ⟨p, hshow⟩ := showResult_changes passageText (indicate w.reader true { s with pendingPunch := some (passageOf w) })
  unfold admitPassage
  rw [hshow, hindicate]
  refine transmitQueueHolds_startRelease ⟨by simpa [Line.held, hreserved] using htx, hreserved, ?_⟩ hrun
  rintro q ⟨⟩ hk
  exact nomatch hk

theorem transmitQueueHolds_applyDecision {s : State} (h : punchless s) (hrun : s.starts.run = .configured)
    (hspace : 1 ≤ txSpace s) (d : Decision) (w : WaitEntry) : transmitQueueHolds (applyDecision d w s) := by
  cases d with
  | refuse why => exact ((refuseRead_evolves _ _ _ _).punchless h).transmitQueueHolds
  | admission soft unpaired pr =>
    exact (noteOutcome_evolves _ _ _).transmitQueueHolds (transmitQueueHolds_admitPunch h hrun hspace w soft unpaired pr)
  | passage => exact (noteOutcome_evolves _ _ _).transmitQueueHolds (transmitQueueHolds_admitPassage h hrun w)

theorem transmitQueueHolds_decideHead {s : State} (hs : transmitQueueHolds s) : transmitQueueHolds (decideHead s) := by
  unfold decideHead
  split
  · exact hs
  · rename_i w rest hw
    split
    · rename_i hmay
      simp only [mayDecide, Bool.and_eq_true, decide_eq_true_eq] at hmay
      obtain ⟨⟨hrun, hcycle⟩, hspace⟩ := hmay
      have hreleased : s.gate.cycle ≠ .released := by
        intro h
        simp [h, Cycle.decides] at hcycle
      have hpunchless := hs.punchless_of_cycle (pinHeld_of_running hrun) hreleased
      exact (testHead_evolves _).transmitQueueHolds
        (transmitQueueHolds_applyDecision (s := { s with waiting := rest }) hpunchless (run_of_running hrun) hspace _ w)
    · exact (testHead_evolves s).transmitQueueHolds hs

/-! ### Starts -/

theorem stopBlocks_line (s : State) : (stopBlocks s).line =
    { s.line with reserved := (withdrawPending (stopGate s)).line.reserved, tx := [], rx := [], backoff := 0, assembly := none,
                  attempt := none, receiving := false, startSeen := false, charSeen := false } := by
  obtain ⟨j, k, n, h⟩ := withdrawPending_changes (stopGate s)
  unfold stopBlocks
  rw [h]
  obtain ⟨j', h'⟩ := stopLine_changes
    { s with gate := Gate.initial, journal := j, counters := k, pendingPunch := none,
             line := { s.line with reserved := n }, waiting := [] }
  simp only [emptyWaiting, stopGate, h', clearChannels, silenceBell, stopPanel, endRestart]

/-- R60, R150: where the station stops, the queue is empty and the reservation of the pending punch is released. -/
theorem punchless_stopBlocks {s : State} (h : punchHeld s) : punchless (stopBlocks s) := by
  have hline := stopBlocks_line s
  refine ⟨?_, ?_, ?_⟩
  · obtain ⟨j, k, n, hstop⟩ := stopBlocks_changes s
    rw [hstop]
  · rw [hline]
    exact (punchless_withdrawPending (s := stopGate s) h).2.1
  · simp [hline]

theorem punchless_restarted {s : State} (h : punchless s) : punchless (beginRead (clearPeers (closeRush s))) := h

theorem transmitQueueHolds_warmStart {s : State} (hs : transmitQueueHolds s) : transmitQueueHolds (warmStart s) := by
  unfold warmStart
  split
  · refine (punchless_restarted (punchless_stopBlocks ?_)).transmitQueueHolds
    exact hs.punchHeld
  · exact hs

theorem transmitQueueHolds_coldStart {s : State} (hs : transmitQueueHolds s) : transmitQueueHolds (coldStart s) := by
  unfold coldStart
  split
  · exact transmitQueueHolds_reset
  · exact hs

theorem transmitQueueHolds_backupSupplyLost {s : State} (hs : transmitQueueHolds s) :
    transmitQueueHolds (backupSupplyLost s) := by
  unfold backupSupplyLost
  split
  · exact punchless.transmitQueueHolds ⟨rfl, rfl, Nat.zero_le _⟩
  · exact hs

theorem transmitQueueHolds_backupEntry {s : State} (hs : transmitQueueHolds s) : transmitQueueHolds (backupEntry s) := by
  unfold backupEntry
  split
  · exact punchless.transmitQueueHolds (s := stopBeacon _) (punchless_stopBlocks (s := { s with
      starts := { s.starts with supply := .backup, mainUpSince := none, pinHeld := false, waitSince := none } }) hs.punchHeld)
  · exact hs

theorem transmitQueueHolds_powerReturn {s : State} (hs : transmitQueueHolds s) : transmitQueueHolds (powerReturn s) := by
  have hcleared : punchless (clearedAtReturn s) := punchless_stopBlocks (s := { s with
      starts := { s.starts with supply := .main, mainUpSince := none, cause := .powerReturn } }) hs.punchHeld
  unfold powerReturn
  split
  · split
    · exact (Evolves.punchless ((beginPanel_evolves _).after (startPoint_evolves le_rfl _)) hcleared).transmitQueueHolds
    · exact punchless.transmitQueueHolds (s := beginPanel (beginSampling _)) hcleared
    · exact punchless.transmitQueueHolds (s := beginRead _) hcleared
  · exact hs

/-! ### Every command -/

theorem transmitQueueHolds_exec (c : Instr) (s t : State) (hs : transmitQueueHolds s) (h : exec c s = .next t) :
    transmitQueueHolds t := by
  have hmeaning {u : State} (hu : Host.Outcome.next (φ := Fault) (ρ := Refusal) u = .next t) (he : transmitQueueHolds u) :
      transmitQueueHolds t := Host.Outcome.next.inj hu ▸ he
  by_cases hc : c.level = 0
  · have hevolves := exec_evolves c s t h
    rw [hc] at hevolves
    exact hevolves.transmitQueueHolds hs
  · cases c with
    | coldStart => exact hmeaning h (transmitQueueHolds_coldStart hs)
    | resetPinAsserted => exact hmeaning h (transmitQueueHolds_resetPinAsserted hs)
    | warmStart => exact hmeaning h (transmitQueueHolds_warmStart hs)
    | configRetry => exact hmeaning h (transmitQueueHolds_configRetry hs)
    | configReadComplete image =>
      simp only [exec, execConfigReadComplete] at h
      split at h
      · exact hmeaning h (transmitQueueHolds_configReadComplete hs image)
      · exact nomatch h
    | tryNotAcknowledged => exact hmeaning h (transmitQueueHolds_tryNotAcknowledged hs)
    | backupEntry => exact hmeaning h (transmitQueueHolds_backupEntry hs)
    | backupSupplyLost => exact hmeaning h (transmitQueueHolds_backupSupplyLost hs)
    | powerReturn => exact hmeaning h (transmitQueueHolds_powerReturn hs)
    | mainSupplyRise => exact hmeaning h (transmitQueueHolds_mainSupplyRise hs)
    | mainSupplyDip => exact hmeaning h (transmitQueueHolds_mainSupplyDip hs)
    | decideHead => exact hmeaning h (transmitQueueHolds_decideHead hs)
    | inputsEstablished => exact hmeaning h (transmitQueueHolds_inputsEstablished hs)
    | doorOpens =>
      exact hmeaning h (transmitQueueHolds_takeDoor hs _ _ fun u hrun hu => transmitQueueHolds_takeDoorOpens hu hrun)
    | doorCloses =>
      exact hmeaning h (transmitQueueHolds_takeDoor hs _ _ fun u hrun hu => transmitQueueHolds_takeDoorCloses hu hrun)
    | exitButtonPress => exact hmeaning h (transmitQueueHolds_exitButtonPress hs)
    | remoteRelease => exact hmeaning h (transmitQueueHolds_remoteRelease hs)
    | freePassageAsserted => exact hmeaning h (transmitQueueHolds_freePassageAsserted hs)
    | freePassageReleased => exact hmeaning h (transmitQueueHolds_freePassageReleased hs)
    | releaseTimerExpiry => exact hmeaning h (transmitQueueHolds_releaseTimerExpiry hs)
    | holdTimerExpiry => exact hmeaning h (transmitQueueHolds_holdTimerExpiry hs)
    | _ => exact absurd rfl hc

/-- Settles O56: a command that moves the release cycle finds no punch pending, or reports or withdraws the pending one. -/
theorem transmitQueueIsKept : Obligations.TransmitQueueIsKept :=
  step_keeps_of_exec transmitQueueHolds_exec fun _ _ hu => hu

end Sys2Proof.Machine

/-! PROOFS. Every command's outcome, the state after reset, and the supplies. -/

namespace Sys2Proof.Machine

/-! ### Every command completes -/

theorem exec_completes (c : Instr) (s : State) (h : ∀ image, c ≠ .configReadComplete image) : ∃ t, exec c s = .next t := by
  cases c with
  | configReadComplete image => exact absurd rfl (h image)
  | _ => exact ⟨_, rfl⟩

theorem exec_configReadComplete (image : List Byte) (s : State) : exec (.configReadComplete image) s =
    if image.length = 512 then .next (configReadComplete image s) else .fault .imageLength := rfl

/-- Settles O1: by the definition of a step. -/
theorem stepTakesTheFrontCommand : Obligations.StepTakesTheFrontCommand :=
  ⟨fun _ _ => rfl, fun s h => by unfold step; rw [h]⟩

/-- Settles O2: a completed read by the length of its image, every other command by its meaning. -/
theorem wellFormedCommandsComplete : Obligations.WellFormedCommandsComplete := by
  intro c s
  by_cases h : ∃ image, c = .configReadComplete image
  · obtain ⟨image, rfl⟩ := h
    rw [exec_configReadComplete]
    by_cases hlength : image.length = 512
    · rw [if_pos hlength]
      refine ⟨fun _ => ⟨_, rfl⟩, fun f => ⟨nofun, ?_⟩, nofun⟩
      rintro ⟨other, ⟨⟩, hne⟩
      exact absurd hlength hne
    · rw [if_neg hlength]
      refine ⟨fun hw => absurd ((Laws.WellFormedByShape.configReadComplete image).1 hw image rfl) hlength, fun f => ?_, nofun⟩
      exact iff_of_true (by cases f; rfl) ⟨image, rfl, hlength⟩
  · have hother : ∀ image, c ≠ .configReadComplete image := fun image he => h ⟨image, he⟩
    obtain ⟨t, ht⟩ := exec_completes c s hother
    rw [ht]
    exact ⟨fun _ => ⟨t, rfl⟩, fun f => ⟨nofun, fun ⟨image, he, _⟩ => absurd he (hother image)⟩, nofun⟩

/-- Settles O4: the fields by their values, the invariants by their lemmas. -/
theorem resetIsAColdStart : Obligations.ResetIsAColdStart :=
  ⟨rfl, rfl, rfl, rfl, rfl, rfl, rfl, rfl, rfl, rfl, rfl, rfl, rfl, rfl, rfl, rfl, rfl, rfl, rfl, rfl,
    transmitQueueHolds_reset, rosterHolds_reset, journalHolds_reset, capacitiesHold_reset, quietWithoutMain_reset⟩

/-! ### The supplies -/

/-- R171, R174: the count of a main supply that stands. -/
theorem supplyQualified_of_some {s : State} {start : Nat} (h : s.starts.mainUpSince = some start) :
    supplyQualified s = decide (250 ≤ elapsedSince s.now start) := by
  unfold supplyQualified
  rw [h]
  rfl

theorem supplyQualified_of_none {s : State} (h : s.starts.mainUpSince = none) : supplyQualified s = false := by
  unfold supplyQualified
  rw [h]

theorem mainSupplyRise_of_none {s : State} (hsupply : s.starts.supply ≠ .main) (h : s.starts.mainUpSince = none) :
    mainSupplyRise s = { s with starts := { s.starts with mainUpSince := some s.now } } := by
  simp [mainSupplyRise, hsupply, h]

theorem mainSupplyDip_eq {s : State} (hsupply : s.starts.supply ≠ .main) :
    mainSupplyDip s = { s with starts := { s.starts with mainUpSince := none } } := by
  simp [mainSupplyDip, hsupply]

theorem coldStart_eq {s : State} (hsupply : s.starts.supply = .lost) :
    coldStart s = if supplyQualified s then { State.reset with pending := s.pending } else s := by
  simp [coldStart, hsupply]

/-- Settles O5: the count of the qualification, then what a loss of all state leaves. -/
theorem coldStartFollowsTheLossOfAllState : Obligations.ColdStartFollowsTheLossOfAllState := by
  have hcold (s : State) : exec .coldStart s = .next (coldStart s) := rfl
  have hlost (s : State) : exec .backupSupplyLost s = .next (backupSupplyLost s) := rfl
  refine ⟨fun s hsupply => ?_, fun s hsupply => ?_, fun s hsupply => ?_⟩
  · have hne : s.starts.supply ≠ .main := by simp [hsupply]
    refine ⟨congrArg _ (mainSupplyDip_eq hne), fun hnone => ⟨?_, congrArg _ (mainSupplyRise_of_none hne hnone)⟩, ?_⟩
    · rw [hcold, coldStart_eq hsupply, supplyQualified_of_none hnone]
      rfl
    · intro start hstart
      refine ⟨fun pins => ?_, fun hshort => ?_, fun hlong => ?_⟩
      · have htick : exec (.millisecondTick pins) s = .next (millisecondTick pins s) := rfl
        rw [htick, millisecondTick, if_neg (by simp [powered, hsupply]), countSupply, if_pos (by simp [hstart])]
        rfl
      · rw [hcold, coldStart_eq hsupply, supplyQualified_of_some hstart, decide_eq_false (by omega)]
        rfl
      · rw [hcold, coldStart_eq hsupply, supplyQualified_of_some hstart, decide_eq_true hlong]
        rfl
  all_goals
    rw [hlost, backupSupplyLost, if_pos (by simp [powered, hsupply]), unpowered]
    simp only [hsupply]
    rfl

/-- Settles O6: the changes of the assertion, field by field. -/
theorem resetPinStopsTheStation : Obligations.ResetPinStopsTheStation := by
  intro s hsupply hpin
  refine ⟨resetPinAsserted s, rfl, ?_⟩
  have he : resetPinAsserted s = endRestart (stopPanel (cutLine (clearChannels (stopGate
      { s with starts := { s.starts with pinHeld := true, waitSince := none } })))) := by
    simp [resetPinAsserted, hsupply, hpin]
  rw [he]
  exact ⟨rfl, rfl, rfl, rfl, by simp [bellOutput, running, endRestart, stopPanel, cutLine, clearChannels, stopGate], rfl, rfl, rfl,
    rfl, rfl, rfl, rfl, rfl, rfl, rfl⟩

/-! ### What a stop leaves -/

/-- R60: the withdrawal of a pending punch, its reservation released first. -/
theorem withdrawPending_of_some {s : State} {p : PendingPunch} (hp : s.pendingPunch = some p) :
    ∃ u, withdrawPending s =
        { writeJournal s.clock.stamp (some p.reader) (some p.badge) .withdrawn .none none u with pendingPunch := none } ∧
      ∃ n, u = { s with line := { s.line with reserved := n } } := by
  cases hk : p.kind with
  | punch => exact ⟨unreserve s, by simp only [withdrawPending, hp, hk], _, rfl⟩
  | passage => exact ⟨s, by simp only [withdrawPending, hp, hk], s.line.reserved, rfl⟩

theorem withdrawPending_of_none {s : State} (hp : s.pendingPunch = none) : withdrawPending s = s := by
  unfold withdrawPending
  rw [hp]

theorem writeJournal_counters (stamp : Stamp) (r : Option Reader) (b : Option Nat) (o : JournalOutcome) (a : Announcement)
    (f : Option PunchFlags) (s : State) : (writeJournal stamp r b o a f s).counters =
      if 512 ≤ s.journal.entries.length then (bump .journalOverwritten s).counters else s.counters := by
  unfold writeJournal bumpIf
  dsimp only
  by_cases h : 512 ≤ s.journal.entries.length <;> simp [h, Config.journalMax, bump, addCount]

/-- R60, R161: a withdrawal counts an entry that makes room for its own, and nothing else. -/
theorem withdrawPending_counters (s : State) : (withdrawPending s).counters =
    if s.pendingPunch.isSome && decide (512 ≤ s.journal.entries.length) then (bump .journalOverwritten s).counters
    else s.counters := by
  cases hp : s.pendingPunch with
  | none => simp [withdrawPending_of_none hp]
  | some p =>
    obtain ⟨_, h, n, rfl⟩ := withdrawPending_of_some hp
    rw [h]
    simp only [Option.isSome_some, Bool.true_and, decide_eq_true_eq]
    exact writeJournal_counters ..

theorem stopBlocks_counters (s : State) : (stopBlocks s).counters =
    if s.pendingPunch.isSome && decide (512 ≤ s.journal.entries.length) then (bump .journalOverwritten s).counters
    else s.counters := by
  have hstop : (stopBlocks s).counters = (withdrawPending (stopGate s)).counters := by
    unfold stopBlocks
    obtain ⟨j, h⟩ := stopLine_changes (emptyWaiting (withdrawPending (stopGate s)))
    rw [h]
    rfl
  rw [hstop]
  exact withdrawPending_counters (stopGate s)

theorem lostWith_append (frames : List TxFrame) (a b : List JournalEntry) :
    lostWith frames (a ++ b) = lostWith frames a ++ lostWith frames b := List.map_append ..

/-- R162: an entry that announces nothing is the entry of no notice. -/
theorem lostWith_of_not_admitted (frames : List TxFrame) (e : JournalEntry) (h : e.outcome.isAdmitted = false) :
    lostWith frames [e] = [e] := by
  have hnot : ∀ f : TxFrame, f.isFor e = false := by
    intro f
    unfold TxFrame.isFor
    cases f.payload <;> simp [JournalEntry.isFor, h]
  simp [lostWith, hnot]

theorem journalStopped_stopBlocks (s : State) : journalStopped s (stopBlocks s) := by
  refine ⟨fun hp => ?_, fun p hp => ?_⟩
  · rw [stopBlocks_journal, withdrawPending_of_none (s := stopGate s) hp]
    rfl
  · obtain ⟨_, h, n, rfl⟩ := withdrawPending_of_some (s := stopGate s) hp
    rw [stopBlocks_journal, h]
    dsimp only
    rw [writeJournal_journal, lostWith_append, lostWith_of_not_admitted _ _ rfl]
    rfl

/-! ### Warm start, BACKUP and the return of power -/

theorem counter_of_clear {t : State} (h : t.counters = Vector.replicate 38 0) (c : Counter) : t.counter c = 0 := by
  rw [State.counter, h]
  exact Vector.getElem_replicate ..

/-- R172: the station as its warm start stops it. -/
def warmStopping (s : State) : State :=
  { clearCounters s with starts := { s.starts with pinHeld := false, cause := .warm, run := .reading } }

theorem warmStart_of_due {s : State} (h : warmStartDue s = true) :
    warmStart s = beginRead (clearPeers (closeRush (stopBlocks (warmStopping s)))) := by
  rw [warmStart, if_pos h]
  rfl

/-- Settles O7: what `stopBlocks` stops, on the cleared counters. -/
theorem warmStartEmptiesAndKeeps : Obligations.WarmStartEmptiesAndKeeps := by
  intro s hsupply hdue
  have hwarm : warmStartDue s = true := by
    obtain h | h := hdue <;> simp [warmStartDue, hsupply, h]
  refine ⟨_, congrArg Host.Outcome.next (warmStart_of_due hwarm), ?_⟩
  have hjournal : journalStopped s (stopBlocks (warmStopping s)) := journalStopped_stopBlocks (warmStopping s)
  have hcounters := stopBlocks_counters (warmStopping s)
  obtain ⟨j, k, n, h⟩ := stopBlocks_changes (warmStopping s)
  rw [h] at hjournal hcounters ⊢
  dsimp only at hcounters
  refine ⟨rfl, fun c hc => ?_, fun hkept => ?_, fun hp hfull => ?_, rfl, rfl, rfl, rfl, rfl, rfl, rfl, rfl, rfl, rfl, rfl, rfl, rfl,
    rfl, rfl, rfl, rfl, rfl, rfl, rfl, rfl, rfl, rfl, rfl, hjournal⟩
  · change k.get c.index = 0
    rw [hcounters]
    split
    · exact ((counter_bump _ _ _).trans (if_neg (Ne.symm hc))).trans (counter_of_clear rfl c)
    · exact counter_of_clear (t := warmStopping s) rfl c
  · refine hcounters.trans (if_neg ?_)
    obtain hp | hroom := hkept
    · simp [warmStopping, clearCounters, hp]
    · simp [warmStopping, clearCounters, Nat.not_le.2 hroom]
  · change k.get Counter.journalOverwritten.index = 1
    rw [hcounters, if_pos (by simp [warmStopping, clearCounters, Option.isSome_iff_ne_none, hp, hfull])]
    exact (counter_bump_self _ _).trans (by rw [counter_of_clear (t := warmStopping s) rfl]; rfl)

/-- The station as its entry into BACKUP stops it. -/
def backupStopping (s : State) : State :=
  { s with starts := { s.starts with supply := .backup, mainUpSince := none, pinHeld := false, waitSince := none } }

theorem toList_take_set {n : Nat} (x : Vector Nat n) (i v : Nat) (h : i < n) : (x.set i v h).toList.take i = x.toList.take i := by
  rw [Vector.toList_set, List.take_set_of_le le_rfl]

/-- Settles O8: what `stopBlocks` stops; the beacon timer stops with it. -/
theorem backupEntryActsOnEachOwner : Obligations.BackupEntryActsOnEachOwner := by
  intro s hsupply
  have he : backupEntry s = stopBeacon (stopBlocks (backupStopping s)) := by
    rw [backupEntry, if_pos (by simp [hsupply])]
    rfl
  refine ⟨_, congrArg Host.Outcome.next he, ?_⟩
  have hstopped := stopped_backup (backupStopping s)
  have hjournal : journalStopped s (stopBlocks (backupStopping s)) := journalStopped_stopBlocks (backupStopping s)
  have hcounters : (stopBlocks (backupStopping s)).counters =
      if s.pendingPunch.isSome && decide (512 ≤ s.journal.entries.length) then (bump .journalOverwritten s).counters
      else s.counters := stopBlocks_counters (backupStopping s)
  obtain ⟨j, k, n, h⟩ := stopBlocks_changes (backupStopping s)
  rw [h] at hjournal hcounters hstopped ⊢
  dsimp only at hcounters
  have hbackup : (stopBeacon (stopBlocks (backupStopping s))).starts.supply ≠ .main := by
    rw [h]
    exact fun h => nomatch h
  rw [h] at hbackup
  obtain ⟨hrelease, halarm, hbell, -⟩ := dormant.outputs_off ⟨hbackup, hstopped⟩
  refine ⟨rfl, fun i hi => by subst hi; rfl, hstopped, hrelease, halarm, hbell, rfl, rfl, rfl, rfl, rfl, rfl, rfl, rfl, ?_, rfl, rfl,
    hjournal, ?_⟩
  · change k.toList.take 37 = _
    rw [hcounters]
    split
    · exact toList_take_set _ 37 _ (by decide)
    · rfl
  · change k.get Counter.journalOverwritten.index = _
    rw [hcounters]
    split
    · exact counter_bump_self _ _
    · rfl

end Sys2Proof.Machine

/-! PROOFS. The return of power, and the tries of the configuration read. -/

namespace Sys2Proof.Machine

/-! ### The panel at a start and at an announcement -/

/-- R168: the panel begun afresh sends row 1 first. -/
theorem panelBegun_beginPanel (s : State) (text : List Byte)
    (h : text = if s.starts.run = .configured then rowText s.settings.idleText else rowText (textBytes "OUT OF SERVICE")) :
    panelBegun s (beginPanel s) text := by
  subst h
  unfold panelBegun beginPanel Panel.afresh Panel.kick outOfService
  by_cases hrun : s.starts.run = .configured <;> simp [hrun]

theorem Panel.setRow2_keeps (p : Panel) (codes : List Byte) :
    (p.setRow2 codes).row1 = p.row1 ∧ (p.setRow2 codes).overlay = p.overlay := by
  unfold Panel.setRow2
  split
  · exact ⟨rfl, rfl⟩
  · obtain ⟨hrow1, -, hoverlay, -, -⟩ := Panel.kick_keeps { p with row2 := codes, mark2 := true }
    exact ⟨hrow1, hoverlay⟩

theorem showClock_keeps_row1 (minute : Nat) (s : State) :
    (showClock minute s).panel.row1 = s.panel.row1 ∧ (showClock minute s).panel.overlay = s.panel.overlay := by
  unfold showClock
  split
  · exact Panel.setRow2_keeps ..
  · exact ⟨rfl, rfl⟩

/-- R165: an announcement rebuilds the clock row and leaves row 1. -/
theorem takeAdvance_keeps_row1 (a : Advance) (s : State) :
    (takeAdvance a s).panel.row1 = s.panel.row1 ∧ (takeAdvance a s).panel.overlay = s.panel.overlay := by
  have hpanel : (bellAdvance a (if a.weekChanged then rosterWeekChange a.week s else s)).panel = s.panel := by
    obtain ⟨b, x, n, k, h⟩ := bellAdvance_changes a (if a.weekChanged then rosterWeekChange a.week s else s)
    rw [h]
    split <;> rfl
  obtain ⟨hrow1, hoverlay⟩ := showClock_keeps_row1 a.minute (bellAdvance a (if a.weekChanged then rosterWeekChange a.week s else s))
  exact ⟨hrow1.trans (by rw [hpanel]), hoverlay.trans (by rw [hpanel])⟩

theorem handAnnouncements_keeps_row1 (s : State) :
    (handAnnouncements s).panel.row1 = s.panel.row1 ∧ (handAnnouncements s).panel.overlay = s.panel.overlay := by
  have hfold (l : List Advance) (t : State) : (l.foldl (fun t a => takeAdvance a t) t).panel.row1 = t.panel.row1 ∧
      (l.foldl (fun t a => takeAdvance a t) t).panel.overlay = t.panel.overlay := by
    induction l generalizing t with
    | nil => exact ⟨rfl, rfl⟩
    | cons a rest ih =>
      obtain ⟨hrow1, hoverlay⟩ := ih (takeAdvance a t)
      obtain ⟨hrow1', hoverlay'⟩ := takeAdvance_keeps_row1 a t
      exact ⟨hrow1.trans hrow1', hoverlay.trans hoverlay'⟩
  exact hfold s.announcements { s with announcements := [] }

theorem handAnnouncements_of_none {s : State} (h : s.announcements = []) : handAnnouncements s = s := by
  simp only [handAnnouncements, h, List.foldl_nil]
  rw [← h]

/-! ### The return of power -/

/-- The station as the return of power stops it. -/
def returnStopping (s : State) : State :=
  { s with starts := { s.starts with supply := .main, mainUpSince := none, cause := .powerReturn } }

theorem journalStopped_quiet {s t : State} (h : journalStopped s t) (htx : s.line.tx = []) (hp : s.pendingPunch = none) :
    t.journal = s.journal := by
  rw [h.1 hp, htx]
  simp [lostWith]

/-- What every return of power leaves, whatever the configuration read had come to. -/
theorem clearedAtReturn_changes (s : State) : ∃ j k n, clearedAtReturn s =
      { s with starts := (returnStopping s).starts, journal := j, counters := k, pendingPunch := none, gate := Gate.initial
               waiting := [], entryChannel := Channel.empty, exitChannel := Channel.empty, restart := .none
               panel := s.panel.stopped, peers := PeerTable.initial, bell := (closeRush (silenceBell s)).bell
               line := { s.line with reserved := n, tx := [], rx := [], backoff := 0, assembly := none, attempt := none
                                     receiving := false, startSeen := false, charSeen := false } } ∧
    (s.line.tx = [] → s.pendingPunch = none → k = s.counters ∧ j = s.journal) := by
  have hjournal : journalStopped s (stopBlocks (returnStopping s)) := journalStopped_stopBlocks (returnStopping s)
  have hcounters := stopBlocks_counters (returnStopping s)
  obtain ⟨j, k, n, h⟩ := stopBlocks_changes (returnStopping s)
  refine ⟨j, k, n, ?_, fun htx hp => ⟨?_, ?_⟩⟩
  · change clearPeers (closeRush (stopBlocks (returnStopping s))) = _
    rw [h]
    rfl
  · rw [h] at hcounters
    simpa [returnStopping, hp] using hcounters
  · rw [h] at hjournal
    exact journalStopped_quiet hjournal htx hp

theorem powerReturn_of_qualified {s : State} {start : Nat} (hsupply : s.starts.supply = .backup)
    (hstart : s.starts.mainUpSince = some start) (h : 250 ≤ elapsedSince s.now start) : powerReturn s =
      match s.starts.run with
      | .configured => beginPanel (startPoint (clearedAtReturn s))
      | .unconfigured => beginPanel (beginSampling (clearedAtReturn s))
      | .reading => beginRead (clearedAtReturn s) := by
  unfold powerReturn
  rw [supplyQualified_of_some hstart, decide_eq_true h, hsupply]
  rfl

theorem powerReturn_of_not_qualified {s : State} {start : Nat} (hstart : s.starts.mainUpSince = some start)
    (h : elapsedSince s.now start < 250) : powerReturn s = s := by
  unfold powerReturn
  rw [supplyQualified_of_some hstart, decide_eq_false (by omega), Bool.and_false]
  rfl

/-- Settles O9: the count of the supply, then the return by the state the configuration read had come to. -/
theorem powerReturnsWhenQualified : Obligations.PowerReturnsWhenQualified := by
  refine ⟨fun s hsupply hnone => ?_, fun s hsupply => ?_, fun s start _ hstart hshort => ?_, fun s start hsupply hstart hlong => ?_⟩
  · exact congrArg Host.Outcome.next (mainSupplyRise_of_none (by simp [hsupply]) hnone)
  · exact congrArg Host.Outcome.next (mainSupplyDip_eq (by simp [hsupply]))
  · exact congrArg Host.Outcome.next (powerReturn_of_not_qualified hstart hshort)
  · refine ⟨_, congrArg Host.Outcome.next (powerReturn_of_qualified hsupply hstart hlong), ?_⟩
    obtain ⟨j, k, n, h, hkept⟩ := clearedAtReturn_changes s
    have hpanel (t : State) (text : List Byte) (hp : t.panel = (beginPanel (clearedAtReturn s)).panel)
        (htext : text = if s.starts.run = .configured then rowText s.settings.idleText
          else rowText (textBytes "OUT OF SERVICE")) : panelBegun s t text := by
      have hbegun := panelBegun_beginPanel (clearedAtReturn s) text (by rw [h]; exact htext)
      unfold panelBegun at hbegun ⊢
      rw [hp, hbegun, h]
      rfl
    generalize hrun : s.starts.run = run
    cases run with
    | configured =>
      have hbegun := hpanel (beginPanel (startPoint (clearedAtReturn s))) _ (by rw [h]; rfl) rfl
      simp only [hrun, if_true] at hbegun
      dsimp only
      rw [h] at hbegun ⊢
      refine ⟨rfl, rfl, rfl, hrun, rfl, rfl, rfl, rfl, rfl, rfl, rfl, rfl, rfl, rfl, fun i hi => by subst hi; rfl, nofun,
        fun _ => hbegun, nofun, rfl, rfl, rfl, rfl, rfl, rfl, rfl, hkept, nofun, fun _ => ⟨rfl, rfl, rfl, rfl, rfl⟩, nofun⟩
    | unconfigured =>
      have hbegun := hpanel (beginPanel (beginSampling (clearedAtReturn s))) _ (by rw [h]; rfl) rfl
      simp only [hrun] at hbegun
      dsimp only
      rw [h] at hbegun ⊢
      refine ⟨rfl, rfl, rfl, hrun, rfl, rfl, rfl, rfl, rfl, rfl, rfl, rfl, rfl, rfl, fun i hi => by subst hi; rfl, nofun,
        nofun, fun _ => hbegun, rfl, rfl, rfl, rfl, rfl, rfl, rfl, hkept, nofun, nofun, fun _ => ⟨rfl, rfl⟩⟩
    | reading =>
      dsimp only
      rw [h]
      refine ⟨rfl, rfl, rfl, rfl, rfl, rfl, rfl, rfl, rfl, rfl, rfl, rfl, rfl, rfl, fun i hi => by subst hi; rfl,
        fun _ => ⟨rfl, rfl, rfl, rfl⟩, nofun, nofun, rfl, rfl, rfl, rfl, rfl, rfl, rfl, hkept, fun _ => ⟨rfl, rfl, rfl⟩, nofun, nofun⟩

/-! ### The tries -/

theorem tryRuns_of {s : State} (hread : readRuns s = true) (hwait : s.starts.waitSince = none) : tryRuns s = true := by
  simp [tryRuns, hread, hwait]

theorem running_of_run {s : State} (h : s.starts.run ≠ .configured) : running s = false := by
  simp [running, h]

theorem refuseImage_changes (o : ReadOutcome) (s : State) :
    ∃ r b x n p k, refuseImage o s =
      { s with starts := { s.starts with run := .unconfigured, waitSince := none, outcome := o }
               timebase := { s.timebase with trim := 0 }, gate := { Gate.initial with sampleFrom := some s.now }
               announcements := [], roster := r, bell := b, line := { s.line with tx := x, backoff := n }, panel := p
               counters := k } := by
  unfold refuseImage endRead
  obtain ⟨r, b, x, n, p, k, h⟩ := handAnnouncements_changes (beginPanel (beginSampling
    { s with starts := { s.starts with run := .unconfigured, waitSince := none, outcome := o }
             timebase := { s.timebase with trim := 0 } }))
  rw [h]
  exact ⟨r, b, x, n, p, k, rfl⟩

theorem supply_of_readRuns {s : State} (h : readRuns s = true) : s.starts.supply = .main := by
  simp only [readRuns, Bool.and_eq_true, beq_iff_eq] at h
  exact h.1.1

theorem lampOf_of_not_running {s : State} (r : Reader) (hpower : powered s = true) (h : running s = false) :
    lampOf s r = .steadyRed := by
  simp [lampOf, hpower, h]

/-- R168: the panel at the end of a read: row 1 holds the base text, whatever announcements were held. -/
theorem endRead_panel (s : State) (text : List Byte)
    (htext : text = if s.starts.run = .configured then rowText s.settings.idleText else rowText (textBytes "OUT OF SERVICE")) :
    (endRead s).panel.row1 = text ∧ (endRead s).panel.overlay = none ∧
      (s.announcements = [] → panelBegun s (endRead s) text) := by
  have hbegun := panelBegun_beginPanel s text htext
  obtain ⟨hrow1, hoverlay⟩ := handAnnouncements_keeps_row1 (beginPanel s)
  refine ⟨?_, ?_, fun hnone => ?_⟩
  · rw [endRead, hrow1, hbegun]
  · rw [endRead, hoverlay, hbegun]
  · rw [endRead, handAnnouncements_of_none (s := beginPanel s) hnone]
    exact hbegun

theorem refuseImage_panel (o : ReadOutcome) (s : State) :
    (refuseImage o s).panel.row1 = rowText (textBytes "OUT OF SERVICE") ∧ (refuseImage o s).panel.overlay = none ∧
      (s.announcements = [] → panelBegun s (refuseImage o s) (rowText (textBytes "OUT OF SERVICE"))) :=
  endRead_panel (beginSampling
    { s with starts := { s.starts with run := .unconfigured, waitSince := none, outcome := o }
             timebase := { s.timebase with trim := 0 } }) _ rfl

theorem loaderBus_of_tryRuns {s : State} (h : tryRuns s = true) (refusal : Option BusRefusal) : loaderBus refusal s =
    match refusal with
    | none => tryBus
    | some i => tryBusCut i := by
  cases refusal <;> simp [loaderBus, h]

theorem tryBus_eq : tryBus = [.start, .write 0xA0#8, .write 0x00#8, .write 0x00#8, .repeatedStart, .write 0xA1#8] ++
    List.replicate 511 (.read true) ++ [.read false, .stop] := by
  have hreads : busReads Config.imageBytes = List.replicate 511 (.read true) ++ [.read false] := rfl
  have hhead : busAddressWrite ++ busOffset ++ busAddressRead =
    [.start, .write 0xA0#8, .write 0x00#8, .write 0x00#8, .repeatedStart, .write 0xA1#8] := rfl
  rw [tryBus, hreads, hhead, ← List.append_assoc, List.append_assoc _ [BusStep.read false]]
  rfl

/-- Settles O10: the bus by its phases, the tries by the count of the failed ones. -/
theorem configurationTries : Obligations.ConfigurationTries := by
  refine ⟨fun s refusal => ⟨fun hread hwait => ?_, fun h => ?_⟩, fun s hread hwait hfew => ?_, fun s start hread hwait hlong => ?_,
    fun s hread hwait hmany => ?_⟩
  · rw [loaderBus_of_tryRuns (tryRuns_of hread hwait)]
    cases refusal with
    | none => exact tryBus_eq
    | some i => cases i <;> rfl
  · have hnot : tryRuns s = false := by
      obtain h | h := h <;> simp [tryRuns, h]
    simp [loaderBus, hnot]
  · refine congrArg Host.Outcome.next ?_
    rw [tryNotAcknowledged, if_pos (tryRuns_of hread hwait), if_pos (by simp only [Config.readTries]; omega)]
  · refine congrArg Host.Outcome.next ?_
    rw [configRetry, hwait]
    dsimp only
    rw [if_pos]
    exact Bool.and_eq_true_iff.2 ⟨hread, decide_eq_true hlong⟩
  · have he : tryNotAcknowledged s =
        refuseImage .memoryAbsent { s with starts := { s.starts with failedTries := s.starts.failedTries + 1 } } := by
      rw [tryNotAcknowledged, if_pos (tryRuns_of hread hwait), if_neg (by simp only [Config.readTries]; omega)]
    refine ⟨_, congrArg Host.Outcome.next he, ?_⟩
    have hpanel := refuseImage_panel .memoryAbsent { s with starts := { s.starts with failedTries := s.starts.failedTries + 1 } }
    obtain ⟨r, b, x, n, p, k, h⟩ := refuseImage_changes .memoryAbsent
      { s with starts := { s.starts with failedTries := s.starts.failedTries + 1 } }
    obtain ⟨hrow1, hoverlay, hbegun⟩ := hpanel
    rw [h] at hrow1 hoverlay hbegun ⊢
    have hmain := supply_of_readRuns hread
    exact ⟨rfl, rfl, rfl, rfl, rfl, rfl, rfl,
      lampOf_of_not_running _ (by simp [powered, hmain]) (running_of_run (by simp)),
      lampOf_of_not_running _ (by simp [powered, hmain]) (running_of_run (by simp)), hrow1, hoverlay, hbegun⟩

end Sys2Proof.Machine

/-! PROOFS. The check of a configuration image, held against its layout, and the settings an accepted image gives. -/

namespace Sys2Proof.Machine

/-! ### Bytes of an image -/

theorem slice_one (l : List Byte) (k : Nat) (h : k < l.length) : slice l k 1 = [getByte l k] := by
  unfold slice getByte
  rw [List.drop_eq_getElem_cons h, List.getD_eq_getElem _ _ h]
  rfl

theorem slice_two (l : List Byte) (k : Nat) (h : k + 1 < l.length) : slice l k 2 = [getByte l k, getByte l (k + 1)] := by
  unfold slice getByte
  rw [List.drop_eq_getElem_cons (by omega), List.drop_eq_getElem_cons h, List.getD_eq_getElem _ _ (by omega),
    List.getD_eq_getElem _ _ h]
  rfl

theorem get_one (l : List Byte) (k : Nat) (h : k < l.length) : get l k 1 = (getByte l k).toNat := by
  rw [Machine.get, slice_one l k h]
  simp [getNat]

theorem get_two (l : List Byte) (k : Nat) (h : k + 1 < l.length) :
    get l k 2 = 256 * (getByte l k).toNat + (getByte l (k + 1)).toNat := by
  rw [Machine.get, slice_two l k h]
  simp [getNat]
  omega

theorem slice_eq_map (l : List Byte) (k n : Nat) (h : k + n ≤ l.length) :
    slice l k n = (List.range n).map (fun i => getByte l (k + i)) := by
  unfold slice getByte
  refine List.ext_getElem (by simp; omega) fun i hi _ => ?_
  have hin : k + i < l.length := by simp at hi; omega
  simp [hin]

theorem foldl_add_toNat (l : List Byte) (a : Nat) : l.foldl (fun a b => a + b.toNat) a = a + (l.map BitVec.toNat).sum := by
  induction l generalizing a with
  | nil => rfl
  | cons b rest ih => rw [List.foldl_cons, ih, List.map_cons, List.sum_cons, Nat.add_assoc]

theorem imageSum_eq (img : List Byte) : imageSum img = ((img.take 510).map BitVec.toNat).sum % 65536 := by
  rw [imageSum, foldl_add_toNat, Nat.zero_add]

/-! ### Failing checks and fields out of their rows -/

/-- A check named by an index fails. -/
def failsAt (l : List FieldCheck) (o : Nat) : Prop := ∃ c ∈ l, c.1 = o ∧ c.2 = false

/-- A field of some rows at an offset is out of its range. -/
def rowsBad (img : List Byte) (rows : List (Nat × Nat × Nat × Nat)) (o : Nat) : Prop :=
  ∃ size low high, (o, size, low, high) ∈ rows ∧ (get img o size < low ∨ high < get img o size)

/-- The checks of some rows. -/
def rowChecks (img : List Byte) (rows : List (Nat × Nat × Nat × Nat)) : List FieldCheck :=
  rows.map fun r => rangeCheck img r.1 r.2.1 r.2.2.1 r.2.2.2

theorem rangeCheck_fails (img : List Byte) (at_ size low high : Nat) :
    (rangeCheck img at_ size low high).2 = false ↔ get img at_ size < low ∨ high < get img at_ size := by
  simp only [rangeCheck, Bool.and_eq_false_iff, decide_eq_false_iff_not]
  omega

theorem failsAt_rowChecks (img : List Byte) (rows : List (Nat × Nat × Nat × Nat)) (o : Nat) :
    failsAt (rowChecks img rows) o ↔ rowsBad img rows o := by
  constructor
  · rintro ⟨_, hc, ho, hfails⟩
    obtain ⟨⟨at_, size, low, high⟩, hr, rfl⟩ := List.mem_map.1 hc
    obtain rfl : at_ = o := ho
    exact ⟨size, low, high, hr, (rangeCheck_fails ..).1 hfails⟩
  · rintro ⟨size, low, high, hr, hbad⟩
    exact ⟨_, List.mem_map.2 ⟨_, hr, rfl⟩, rfl, (rangeCheck_fails ..).2 hbad⟩

@[simp] theorem failsAt_nil (o : Nat) : failsAt [] o ↔ False := by simp [failsAt]

theorem failsAt_cons (c : FieldCheck) (l : List FieldCheck) (o : Nat) :
    failsAt (c :: l) o ↔ (c.1 = o ∧ c.2 = false) ∨ failsAt l o := by
  simp [failsAt]

theorem failsAt_append (l m : List FieldCheck) (o : Nat) : failsAt (l ++ m) o ↔ failsAt l o ∨ failsAt m o := by
  simp [failsAt, or_and_right, exists_or]

theorem failsAt_flatten (n : Nat) (f : Nat → List FieldCheck) (o : Nat) :
    failsAt ((List.range n).map f).flatten o ↔ ∃ k, k < n ∧ failsAt (f k) o := by
  simp only [failsAt, List.mem_flatten, List.mem_map, List.mem_range]
  constructor
  · rintro ⟨c, ⟨_, ⟨k, hk, rfl⟩, hc⟩, h⟩
    exact ⟨k, hk, c, hc, h⟩
  · rintro ⟨k, hk, c, hc, h⟩
    exact ⟨c, ⟨_, ⟨k, hk, rfl⟩, hc⟩, h⟩

theorem rowChecks_append (img : List Byte) (a b : List (Nat × Nat × Nat × Nat)) :
    rowChecks img (a ++ b) = rowChecks img a ++ rowChecks img b := List.map_append ..

theorem rowChecks_flatten (img : List Byte) (n : Nat) (f : Nat → List (Nat × Nat × Nat × Nat)) :
    rowChecks img ((List.range n).map f).flatten = ((List.range n).map fun k => rowChecks img (f k)).flatten := by
  simp [rowChecks, List.map_flatten, List.map_map, Function.comp_def]

theorem trim_fails (img : List Byte) (o : Nat) :
    (((15, decide (-2047 ≤ signed2 (get img 15 2)) && decide (signed2 (get img 15 2) ≤ 2047)) : FieldCheck).1 = o ∧
        ((15, decide (-2047 ≤ signed2 (get img 15 2)) && decide (signed2 (get img 15 2) ≤ 2047)) : FieldCheck).2 = false) ↔
      o = 15 ∧ (signed2 (get img 15 2) < -2047 ∨ 2047 < signed2 (get img 15 2)) := by
  refine and_congr eq_comm ?_
  simp only [Bool.and_eq_false_iff, decide_eq_false_iff_not, not_le]

/-- R151: the rows of the fields before the tables. -/
def headRows : List (Nat × Nat × Nat × Nat) :=
  [(0, 1, 0x31, 0x31), (1, 1, 1, 55), (2, 1, 1, 8), (4, 1, 0, 3), (5, 1, 0, 2), (6, 1, 0, 2), (7, 1, 0, 1), (8, 1, 0, 1),
   (9, 1, 0, 1), (10, 1, 2, 64), (11, 1, 1, 30), (12, 1, 1, 30), (13, 1, 5, 250), (14, 1, 0, 54), (17, 2, 0, 1439),
   (19, 2, 0, 1439)]

theorem failsAt_headChecks (img : List Byte) (o : Nat) : failsAt (headChecks img) o ↔
    failsAt (rowChecks img headRows) o ∨ (o = 15 ∧ (signed2 (get img 15 2) < -2047 ∨ 2047 < signed2 (get img 15 2))) := by
  have hsplit : headChecks img = rowChecks img (headRows.take 14) ++
      (15, decide (-2047 ≤ signed2 (get img 15 2)) && decide (signed2 (get img 15 2) ≤ 2047)) :: rowChecks img (headRows.drop 14) := rfl
  have hrows : rowChecks img headRows = rowChecks img (headRows.take 14) ++ rowChecks img (headRows.drop 14) := rfl
  rw [hsplit, hrows, failsAt_append, failsAt_append, failsAt_cons, trim_fails]
  tauto

/-- R151: the rows of a shift entry. -/
def shiftRows (k : Nat) : List (Nat × Nat × Nat × Nat) :=
  [(38 + 17 * k, 2, 0, 1439), (40 + 17 * k, 2, 1, 1440), (42 + 17 * k, 1, 0, 60), (43 + 17 * k, 1, 0, 15),
   (44 + 17 * k, 1, 0, 15), (45 + 17 * k, 1, 0, 60), (47 + 17 * k, 1, 0, 120), (48 + 17 * k, 2, 0, 1440),
   (50 + 17 * k, 2, 0, 960), (52 + 17 * k, 2, 0, 1440)]

theorem failsAt_shiftChecks (img : List Byte) (k o : Nat) : failsAt (shiftChecks img (shiftOffset (k + 1))) o ↔
    failsAt (rowChecks img (shiftRows k)) o ∨ (o = 46 + 17 * k ∧ get img o 1 ∉ [1, 5, 6, 10, 15, 30]) ∨
      (o = 52 + 17 * k ∧ get img o 2 < get img (50 + 17 * k) 2) := by
  have hoffset (j : Nat) : shiftOffset (k + 1) + j = (37 + j) + 17 * k := by
    simp only [shiftOffset]
    omega
  have hsplit : shiftChecks img (shiftOffset (k + 1)) = rowChecks img ((shiftRows k).take 6) ++
      (46 + 17 * k, roundingUnits.contains (get img (46 + 17 * k) 1)) :: rowChecks img (((shiftRows k).drop 6).take 3) ++
        [rangeCheck img (52 + 17 * k) 2 (get img (50 + 17 * k) 2) 1440] := by
    simp only [shiftChecks, hoffset]
    rfl
  have hrows : rowChecks img (shiftRows k) = rowChecks img ((shiftRows k).take 6) ++ rowChecks img (((shiftRows k).drop 6).take 3) ++
      [rangeCheck img (52 + 17 * k) 2 0 1440] := rfl
  have hunit : ((46 + 17 * k, roundingUnits.contains (get img (46 + 17 * k) 1)) : FieldCheck).1 = o ∧
      ((46 + 17 * k, roundingUnits.contains (get img (46 + 17 * k) 1)) : FieldCheck).2 = false ↔
      o = 46 + 17 * k ∧ get img o 1 ∉ [1, 5, 6, 10, 15, 30] := by
    dsimp only
    constructor
    · rintro ⟨rfl, h⟩
      exact ⟨rfl, by simpa [roundingUnits] using h⟩
    · rintro ⟨rfl, h⟩
      exact ⟨rfl, by simpa [roundingUnits] using h⟩
  have hlimit : failsAt [rangeCheck img (52 + 17 * k) 2 (get img (50 + 17 * k) 2) 1440] o ↔
      failsAt [rangeCheck img (52 + 17 * k) 2 0 1440] o ∨ (o = 52 + 17 * k ∧ get img o 2 < get img (50 + 17 * k) 2) := by
    have hat (low : Nat) : (rangeCheck img (52 + 17 * k) 2 low 1440).1 = 52 + 17 * k := rfl
    simp only [failsAt_cons, failsAt_nil, or_false, rangeCheck_fails, hat]
    constructor
    · rintro ⟨rfl, h | h⟩
      · exact .inr ⟨rfl, h⟩
      · exact .inl ⟨rfl, .inr h⟩
    · rintro (⟨rfl, h⟩ | ⟨rfl, h⟩)
      · exact ⟨rfl, .inr (h.resolve_left (Nat.not_lt_zero _))⟩
      · exact ⟨rfl, .inl h⟩
  rw [hsplit, hrows]
  simp only [failsAt_append, failsAt_cons (46 + 17 * k, _), hunit, hlimit]
  tauto

/-- R151: the rows of a bell entry. -/
def bellRows (k : Nat) : List (Nat × Nat × Nat × Nat) := [(242 + 6 * k, 2, 0, 1439), (246 + 6 * k, 1, 0, 30)]

theorem patternOk_eq_false (b : Byte) : patternOk b = false ↔
    b.toNat / 64 = 3 ∧ (b.toNat % 32 = 0 ∨ b.toNat % 32 = 31) ∨ b.toNat / 64 ≠ 3 ∧ b.toNat % 32 ≠ 0 := by
  have hlength : patternLength b = b.toNat % 32 := rfl
  unfold patternOk
  split
  · simp only [Bool.and_eq_false_iff, decide_eq_false_iff_not, hlength]
    omega
  · simp only [decide_eq_false_iff_not, hlength]
    omega

theorem failsAt_bellChecks (img : List Byte) (k o : Nat) : failsAt (bellChecks img (bellOffset k)) o ↔
    failsAt (rowChecks img (bellRows k)) o ∨ (o = 245 + 6 * k ∧
      ((getByte img o).toNat / 64 = 3 ∧ ((getByte img o).toNat % 32 = 0 ∨ (getByte img o).toNat % 32 = 31) ∨
        (getByte img o).toNat / 64 ≠ 3 ∧ (getByte img o).toNat % 32 ≠ 0)) := by
  have hoffset (j : Nat) : bellOffset k + j = (241 + j) + 6 * k := by
    simp only [bellOffset]
    omega
  have hsplit : bellChecks img (bellOffset k) = [rangeCheck img (242 + 6 * k) 2 0 1439] ++
      (245 + 6 * k, patternOk (getByte img (245 + 6 * k))) :: [rangeCheck img (246 + 6 * k) 1 0 30] := by
    simp only [bellChecks, hoffset]
    rfl
  have hrows : rowChecks img (bellRows k) = [rangeCheck img (242 + 6 * k) 2 0 1439] ++ [rangeCheck img (246 + 6 * k) 1 0 30] := rfl
  have hpattern : ((245 + 6 * k, patternOk (getByte img (245 + 6 * k))) : FieldCheck).1 = o ∧
      ((245 + 6 * k, patternOk (getByte img (245 + 6 * k))) : FieldCheck).2 = false ↔
      o = 245 + 6 * k ∧ patternOk (getByte img o) = false := by
    dsimp only
    constructor <;> (rintro ⟨rfl, h⟩; exact ⟨rfl, h⟩)
  rw [hsplit, hrows, failsAt_append, failsAt_append, failsAt_cons (245 + 6 * k, _), hpattern, patternOk_eq_false]
  tauto

theorem failsAt_limitChecks (img : List Byte) (o : Nat) : failsAt (limitChecks img) o ↔
    failsAt (rowChecks img [(433, 2, 0, 1023), (435, 2, 0, 1023)]) o ∨ (o = 433 ∧ get img 435 2 ≤ get img 433 2) := by
  have hat (at_ : Nat) : (rangeCheck img at_ 2 0 1023).1 = at_ := rfl
  simp only [limitChecks, rowChecks, List.map_cons, List.map_nil, failsAt_cons, failsAt_nil, or_false, rangeCheck_fails, hat,
    Bool.and_eq_false_iff, decide_eq_false_iff_not]
  constructor
  · rintro (⟨rfl, h | h⟩ | h)
    · exact .inl (.inl ⟨rfl, .inr (by omega)⟩)
    · exact .inr ⟨rfl, by omega⟩
    · exact .inl (.inr h)
  · rintro ((⟨rfl, h⟩ | h) | ⟨rfl, h⟩)
    · exact .inl ⟨rfl, .inl (by omega)⟩
    · exact .inr h
    · exact .inl ⟨rfl, .inr (by omega)⟩

theorem exists_lt_or (n : Nat) (p q : Nat → Prop) :
    (∃ k, k < n ∧ (p k ∨ q k)) ↔ (∃ k, k < n ∧ p k) ∨ ∃ k, k < n ∧ q k := by
  simp only [and_or_left, exists_or]

/-- R151, R170: a check fails at an offset exactly when the layout's field there is out of its range. -/
theorem failsAt_fieldChecks (img : List Byte) (o : Nat) : failsAt (fieldChecks img) o ↔ imageFieldBad img o := by
  have hrates : ((List.range 8).map fun i => rangeCheck img (21 + 2 * i) 2 0 50000) =
      rowChecks img ((List.range 8).map fun k => (21 + 2 * k, 2, 0, 50000)) := by
    simp [rowChecks, List.map_map, Function.comp_def]
  have himage : imageRows = headRows ++ [(433, 2, 0, 1023), (435, 2, 0, 1023)] ++
      (List.range 8).map (fun k => (21 + 2 * k, 2, 0, 50000)) ++ ((List.range 12).map shiftRows).flatten ++
      ((List.range 32).map bellRows).flatten := rfl
  have hrows : rowsBad img imageRows o ↔ failsAt (rowChecks img imageRows) o := (failsAt_rowChecks img imageRows o).symm
  change _ ↔ rowsBad img imageRows o ∨ _
  rw [hrows, himage]
  simp only [fieldChecks, rowChecks_append, rowChecks_flatten, failsAt_append, failsAt_flatten, hrates, failsAt_headChecks,
    failsAt_shiftChecks, failsAt_bellChecks, failsAt_limitChecks, exists_lt_or 12, exists_lt_or 32 (fun k => failsAt (rowChecks img (bellRows k)) o)]
  exact Iff.of_eq (by ac_rfl)

end Sys2Proof.Machine

/-! PROOFS. The outcome of the check of a completed read, and the settings of an accepted image. -/

namespace Sys2Proof.Machine

/-! ### The order of the checks (R170) -/

/-- The checks of a list are named by indexes that ascend from a first one to below a last. -/
def ascends (l : List FieldCheck) (low high : Nat) : Prop :=
  l.Pairwise (fun c d => c.1 < d.1) ∧ ∀ c ∈ l, low ≤ c.1 ∧ c.1 < high

theorem ascends_append {a b : List FieldCheck} {low mid high : Nat} (ha : ascends a low mid) (hb : ascends b mid high)
    (hlow : low ≤ mid) (hhigh : mid ≤ high) : ascends (a ++ b) low high := by
  refine ⟨List.pairwise_append.2 ⟨ha.1, hb.1, fun c hc d hd => ?_⟩, fun c hc => ?_⟩
  · exact Nat.lt_of_lt_of_le (ha.2 c hc).2 (hb.2 d hd).1
  · obtain hc | hc := List.mem_append.1 hc
    · exact ⟨(ha.2 c hc).1, Nat.lt_of_lt_of_le (ha.2 c hc).2 hhigh⟩
    · exact ⟨Nat.le_trans hlow (hb.2 c hc).1, (hb.2 c hc).2⟩

theorem ascends_flatten (f : Nat → List FieldCheck) (low width n : Nat)
    (h : ∀ k, k < n → ascends (f k) (low + width * k) (low + width * k + width)) :
    ascends ((List.range n).map f).flatten low (low + width * n) := by
  induction n with
  | zero => exact ⟨.nil, fun c hc => absurd hc List.not_mem_nil⟩
  | succ n ih =>
    rw [List.range_succ, List.map_append, List.flatten_append]
    refine ascends_append (ih fun k hk => h k (by omega)) ?_ (by omega) (by rw [Nat.mul_succ]; omega)
    have hlast := h n (by omega)
    simpa [Nat.mul_succ, Nat.add_assoc] using hlast

theorem ascends_singleton (c : FieldCheck) (low high : Nat) (h : low ≤ c.1 ∧ c.1 < high) : ascends [c] low high :=
  ⟨List.pairwise_singleton .., fun d hd => by rw [List.mem_singleton.1 hd]; exact h⟩

theorem ascends_rates (img : List Byte) : ascends ((List.range 8).map fun i => rangeCheck img (21 + 2 * i) 2 0 50000) 21 37 := by
  have h := ascends_flatten (fun i => [rangeCheck img (21 + 2 * i) 2 0 50000]) 21 2 8
    fun k _ => ascends_singleton _ _ _ ⟨le_rfl, by simp only [rangeCheck]; omega⟩
  exact h

theorem ascends_shiftChecks (img : List Byte) (k : Nat) :
    ascends (shiftChecks img (shiftOffset (k + 1))) (37 + 17 * k) (37 + 17 * k + 17) := by
  simp only [ascends, shiftChecks, rangeCheck, shiftOffset, List.pairwise_cons, List.mem_cons, forall_eq_or_imp, List.not_mem_nil]
  simp

theorem ascends_bellChecks (img : List Byte) (k : Nat) :
    ascends (bellChecks img (bellOffset k)) (241 + 6 * k) (241 + 6 * k + 6) := by
  simp only [ascends, bellChecks, rangeCheck, bellOffset, List.pairwise_cons, List.mem_cons, forall_eq_or_imp, List.not_mem_nil]
  simp

theorem ascends_headChecks (img : List Byte) : ascends (headChecks img) 0 21 := by
  simp [ascends, headChecks, rangeCheck]

theorem ascends_limitChecks (img : List Byte) : ascends (limitChecks img) 433 437 := by
  simp [ascends, limitChecks, rangeCheck]

theorem fieldChecks_ascend (img : List Byte) : ascends (fieldChecks img) 0 437 := by
  have hshifts := ascends_flatten (fun i => shiftChecks img (shiftOffset (i + 1))) 37 17 12 fun k _ => ascends_shiftChecks img k
  have hbells := ascends_flatten (fun i => bellChecks img (bellOffset i)) 241 6 32 fun k _ => ascends_bellChecks img k
  refine ascends_append (ascends_append (ascends_append (ascends_append (ascends_headChecks img) (ascends_rates img) ?_ ?_)
    hshifts ?_ ?_) hbells ?_ ?_) (ascends_limitChecks img) ?_ ?_ <;> omega

/-! ### The outcome of the check -/

theorem badField_of_split {img : List Byte} {a b : List FieldCheck} {i : Nat} (h : fieldChecks img = a ++ (i, false) :: b)
    (ha : ∀ c ∈ a, c.2 = true) : badField img = some i := by
  have hnone : a.find? (fun c => !c.2) = none := List.find?_eq_none.2 fun c hc => by simp [ha c hc]
  simp [badField, h, List.find?_append, hnone]

/-- R170: BAD FIELD names the first field, by offset, that is out of its range. -/
theorem badField_of_least {img : List Byte} {i : Nat} (hbad : imageFieldBad img i) (hleast : ∀ j, j < i → ¬imageFieldBad img j) :
    badField img = some i := by
  obtain ⟨c, hc, rfl, hfails⟩ := (failsAt_fieldChecks img i).2 hbad
  obtain ⟨a, b, hsplit⟩ := List.append_of_mem hc
  refine badField_of_split (b := b) (a := a) ?_ fun d hd => ?_
  · rw [hsplit, ← hfails]
  · by_contra hd'
    have hmem : d ∈ fieldChecks img := by simp [hsplit, hd]
    refine hleast d.1 ?_ ((failsAt_fieldChecks img d.1).1 ⟨d, hmem, rfl, by simpa using hd'⟩)
    have horder := (fieldChecks_ascend img).1
    rw [hsplit, List.pairwise_append] at horder
    exact horder.2.2 d hd c List.mem_cons_self

theorem badField_of_none {img : List Byte} (h : ∀ c ∈ fieldChecks img, c.2 = true) : badField img = none := by
  have hnone : (fieldChecks img).find? (fun c => !c.2) = none := List.find?_eq_none.2 fun c hc => by simp [h c hc]
  simp [badField, hnone]

theorem checks_pass_of_no_bad_field {img : List Byte} (h : ∀ i, ¬imageFieldBad img i) : ∀ c ∈ fieldChecks img, c.2 = true := by
  intro c hc
  by_contra hfails
  exact h c.1 ((failsAt_fieldChecks img c.1).1 ⟨c, hc, rfl, by simpa using hfails⟩)

theorem checkImage_of_badField {img : List Byte} {i : Nat} (hsum : imageSum img = get img 510 2) (h : badField img = some i) :
    checkImage img = .badField i := by
  simp [checkImage, hsum, h]

theorem checkImage_of_pass {img : List Byte} (hsum : imageSum img = get img 510 2) (h : badField img = none) :
    checkImage img = .accepted := by
  simp [checkImage, hsum, h]

theorem checkImage_of_sum {img : List Byte} (hsum : imageSum img ≠ get img 510 2) : checkImage img = .badSum := by
  simp [checkImage, hsum]

/-! ### The settings -/

theorem divisorOf_eq (n : Nat) : divisorOf n = [23, 11, 7, 3].getD n 3 := by
  match n with
  | 0 | 1 | 2 | 3 => rfl
  | n + 4 => rfl

theorem gateRoleOf_eq (n : Nat) : gateRoleOf n = [GateRole.both, .entryOnly, .exitOnly].getD n .both := by
  match n with
  | 0 | 1 | 2 => rfl
  | n + 3 => rfl

theorem passbackOf_eq (n : Nat) : passbackOf n = [Passback.hard, .soft, .off].getD n .hard := by
  match n with
  | 0 | 1 | 2 => rfl
  | n + 3 => rfl

theorem patternOf_eq (b : Byte) :
    patternOf b = [Pattern.long, .double, .triple].getD (b.toNat / 64) (.continuous (b.toNat % 32)) := by
  unfold patternOf patternLength
  generalize b.toNat / 64 = n
  match n with
  | 0 | 1 | 2 => rfl
  | n + 3 => rfl

theorem idleText_eq {img : List Byte} (h : img.length = 512) :
    slice img 437 16 = (List.range 16).map (fun k => getByte img (437 + k)) := slice_eq_map _ _ _ (by omega)

theorem getShift_eq (img : List Byte) (k : Nat) : getShift img (shiftOffset (k + 1)) =
    { days := getByte img (37 + 17 * k) &&& 0x7F#8, start := get img (38 + 17 * k) 2
      length := get img (40 + 17 * k) 2, earlyIn := get img (42 + 17 * k) 1, lateGrace := get img (43 + 17 * k) 1
      earlyLeave := get img (44 + 17 * k) 1, lateOut := get img (45 + 17 * k) 1, unit := get img (46 + 17 * k) 1
      breakLength := get img (47 + 17 * k) 1, threshold := get img (48 + 17 * k) 2
      limit := get img (50 + 17 * k) 2, limit2 := get img (52 + 17 * k) 2 } := by
  have hoffset (j : Nat) : shiftOffset (k + 1) + j = (37 + j) + 17 * k := by
    simp only [shiftOffset]
    omega
  simp only [getShift, hoffset]
  rfl

theorem getBell_eq (img : List Byte) (k : Nat) : getBell img (bellOffset k) =
    { days := getByte img (241 + 6 * k) &&& 0x7F#8, minute := get img (242 + 6 * k) 2
      zones := getByte img (244 + 6 * k)
      pattern := [Pattern.long, .double, .triple].getD ((getByte img (245 + 6 * k)).toNat / 64)
        (.continuous ((getByte img (245 + 6 * k)).toNat % 32))
      rush := get img (246 + 6 * k) 1 } := by
  have hoffset (j : Nat) : bellOffset k + j = (241 + j) + 6 * k := by
    simp only [bellOffset]
    omega
  simp only [getBell, hoffset, patternOf_eq]
  rfl

theorem settingsOf_eq {img : List Byte} (h : img.length = 512) : settingsOf img =
    { station := get img 1 1
      zone := get img 2 1
      siteCode := get img 3 1
      divisor := [23, 11, 7, 3].getD (get img 4 1) 3
      gateRole := [GateRole.both, .entryOnly, .exitOnly].getD (get img 5 1) .both
      passback := [Passback.hard, .soft, .off].getD (get img 6 1) .hard
      degrade := decide (get img 7 1 = 1)
      confirm := decide (get img 8 1 = 1)
      openLow := decide (get img 9 1 = 1)
      q := get img 10 1
      releaseTime := get img 11 1
      rushTime := get img 12 1
      holdLimit := get img 13 1
      expectedPeers := get img 14 1
      nightStart := get img 17 2
      nightEnd := get img 19 2
      rates := (List.range 8).map (fun k => get img (21 + 2 * k) 2)
      shifts := (List.range 12).map (fun k =>
        { days := getByte img (37 + 17 * k) &&& 0x7F#8, start := get img (38 + 17 * k) 2
          length := get img (40 + 17 * k) 2, earlyIn := get img (42 + 17 * k) 1, lateGrace := get img (43 + 17 * k) 1
          earlyLeave := get img (44 + 17 * k) 1, lateOut := get img (45 + 17 * k) 1, unit := get img (46 + 17 * k) 1
          breakLength := get img (47 + 17 * k) 1, threshold := get img (48 + 17 * k) 2
          limit := get img (50 + 17 * k) 2, limit2 := get img (52 + 17 * k) 2 })
      bells := (List.range 32).map (fun k =>
        { days := getByte img (241 + 6 * k) &&& 0x7F#8, minute := get img (242 + 6 * k) 2
          zones := getByte img (244 + 6 * k)
          pattern := [Pattern.long, .double, .triple].getD ((getByte img (245 + 6 * k)).toNat / 64)
            (.continuous ((getByte img (245 + 6 * k)).toNat % 32))
          rush := get img (246 + 6 * k) 1 })
      openLimit := get img 433 2
      shortLimit := get img 435 2
      idleText := (List.range 16).map (fun k => getByte img (437 + k))
      sum := imageSum img } := by
  unfold settingsOf
  simp only [divisorOf_eq, gateRoleOf_eq, passbackOf_eq, getShift_eq, getBell_eq, idleText_eq h]

/-! ### The end of a read -/

theorem acceptImage_changes (img : List Byte) (s : State) :
    ∃ r b x n p k, acceptImage img s =
      { s with starts := { s.starts with run := .configured, waitSince := none, outcome := .accepted }
               settings := settingsOf img, timebase := { s.timebase with trim := trimOf img }
               entryChannel := Channel.empty, exitChannel := Channel.empty
               gate := { Gate.initial with sampleFrom := some s.now }
               peers := { s.peers with beacon := some { count := 0, target := (settingsOf img).station % 16 } }
               announcements := [], roster := r, bell := b, panel := p, counters := k
               line := { s.line with idle := 0, generator := BitVec.ofNat 16 (settingsOf img).station, tx := x, backoff := n } } := by
  unfold acceptImage endRead
  obtain ⟨r, b, x, n, p, k, h⟩ := handAnnouncements_changes (beginPanel (startPoint
    { s with starts := { s.starts with run := .configured, waitSince := none, outcome := .accepted }
             settings := settingsOf img
             timebase := { s.timebase with trim := trimOf img } }))
  rw [h]
  exact ⟨r, b, x, n, p, k, rfl⟩

theorem acceptImage_panel (img : List Byte) (s : State) :
    (acceptImage img s).panel.row1 = rowText (settingsOf img).idleText ∧ (acceptImage img s).panel.overlay = none ∧
      (s.announcements = [] → panelBegun s (acceptImage img s) (rowText (settingsOf img).idleText)) :=
  endRead_panel (startPoint
    { s with starts := { s.starts with run := .configured, waitSince := none, outcome := .accepted }
             settings := settingsOf img
             timebase := { s.timebase with trim := trimOf img } }) _ rfl

/-- R168, R170: what the end of a read leaves and shows, whatever the image's outcome. -/
def readEnded (s t : State) : Prop :=
  t.clock = s.clock ∧ t.announcements = [] ∧ t.starts.cause = s.starts.cause ∧ t.journal = s.journal ∧ t.waiting = s.waiting ∧
    t.pendingPunch = s.pendingPunch ∧ t.panel.overlay = none ∧
    ∀ text, text = (if t.starts.run = .configured then rowText t.settings.idleText else rowText (textBytes "OUT OF SERVICE")) →
      t.panel.row1 = text ∧ (s.announcements = [] → panelBegun s t text)

theorem readEnded_refuseImage (o : ReadOutcome) (s : State) : readEnded s (refuseImage o s) := by
  obtain ⟨hrow1, hoverlay, hbegun⟩ := refuseImage_panel o s
  obtain ⟨r, b, x, n, p, k, h⟩ := refuseImage_changes o s
  rw [h] at hrow1 hoverlay hbegun ⊢
  exact ⟨rfl, rfl, rfl, rfl, rfl, rfl, hoverlay, fun text htext => by subst htext; exact ⟨hrow1, hbegun⟩⟩

theorem readEnded_acceptImage (img : List Byte) (s : State) : readEnded s (acceptImage img s) := by
  obtain ⟨hrow1, hoverlay, hbegun⟩ := acceptImage_panel img s
  obtain ⟨r, b, x, n, p, k, h⟩ := acceptImage_changes img s
  rw [h] at hrow1 hoverlay hbegun ⊢
  exact ⟨rfl, rfl, rfl, rfl, rfl, rfl, hoverlay, fun text htext => by subst htext; exact ⟨hrow1, hbegun⟩⟩

/-- R170: a read that is refused leaves the tables as they stood. -/
theorem refuseImage_leaves (o : ReadOutcome) (s : State) :
    (refuseImage o s).starts.outcome = o ∧ (refuseImage o s).starts.run = .unconfigured ∧
      (refuseImage o s).settings = s.settings ∧ (refuseImage o s).timebase.trim = 0 := by
  obtain ⟨r, b, x, n, p, k, h⟩ := refuseImage_changes o s
  rw [h]
  exact ⟨rfl, rfl, rfl, rfl⟩

/-- Settles O11: the outcome by the sum and the first failing check, then what each outcome leaves. -/
theorem completedReadIsChecked : Obligations.CompletedReadIsChecked := by
  intro img s hlength hread hwait
  refine ⟨fun k hk => ⟨get_one _ _ (by omega), fun hk' => get_two _ _ (by omega)⟩, configReadComplete img s, ?_, ?_⟩
  · rw [exec_configReadComplete, if_pos hlength]
  have htry := tryRuns_of hread hwait
  have hsum (h : imageSum img ≠ get img 510 2) : configReadComplete img s = refuseImage .badSum s := by
    rw [configReadComplete, if_pos htry, checkImage_of_sum h]
  have hfield (h : imageSum img = get img 510 2) (i : Nat) (hi : badField img = some i) :
      configReadComplete img s = refuseImage (.badField i) s := by
    rw [configReadComplete, if_pos htry, checkImage_of_badField h hi]
  have hpass (h : imageSum img = get img 510 2) (hi : badField img = none) : configReadComplete img s = acceptImage img s := by
    rw [configReadComplete, if_pos htry, checkImage_of_pass h hi]
  have hended : readEnded s (configReadComplete img s) := by
    by_cases h : imageSum img = get img 510 2
    · cases hi : badField img with
      | none => rw [hpass h hi]; exact readEnded_acceptImage img s
      | some i => rw [hfield h i hi]; exact readEnded_refuseImage ..
    · rw [hsum h]
      exact readEnded_refuseImage ..
  obtain ⟨hclock, hannouncements, hcause, hjournal, hwaiting, hpunch, hoverlay, htext⟩ := hended
  refine ⟨hclock, hannouncements, hcause, hjournal, hwaiting, hpunch, hoverlay, htext, imageSum_eq img, fun h => ?_,
    fun h a b i hsplit ha => ?_, fun h i hbad hleast => ?_, fun h hpasses => ?_⟩
  · rw [hsum h]
    exact refuseImage_leaves ..
  · rw [hfield h i (badField_of_split hsplit ha)]
    exact refuseImage_leaves ..
  · rw [hfield h i (badField_of_least hbad hleast)]
    exact refuseImage_leaves ..
  · have hgood : ∀ c ∈ fieldChecks img, c.2 = true := hpasses.elim id checks_pass_of_no_bad_field
    rw [hpass h (badField_of_none hgood)]
    obtain ⟨r, b, x, n, p, k, haccept⟩ := acceptImage_changes img s
    rw [haccept]
    exact ⟨rfl, rfl, rfl, rfl, rfl, rfl, rfl, rfl, rfl, settingsOf_eq hlength⟩

end Sys2Proof.Machine

/-! PROOFS. The timebase, the inputs' samples, the ages of the peers, the beacon timer and the peer table's room. -/

namespace Sys2Proof.Machine

/-! ### The millisecond tick -/

/-- R3: what a tick does to the clock, by how far it carries. -/
theorem Clock.tick_cases (c : Clock) :
    (c.subMs + 1 < 1000 ∧ c.tick = { c with subMs := c.subMs + 1 }) ∨
      (1000 ≤ c.subMs + 1 ∧ c.second + 1 < 60 ∧ c.tick = { c with second := c.second + 1, subMs := 0 }) ∨
      (1000 ≤ c.subMs + 1 ∧ 60 ≤ c.second + 1 ∧ c.minute + 1 < 10080 ∧
        c.tick = { c with minute := c.minute + 1, second := 0, subMs := 0 }) ∨
      (1000 ≤ c.subMs + 1 ∧ 60 ≤ c.second + 1 ∧ 10080 ≤ c.minute + 1 ∧
        c.tick = { c with week := (c.week + 1) % 65536, minute := 0, second := 0, subMs := 0 }) := by
  unfold Clock.tick
  by_cases hsub : c.subMs + 1 < 1000
  · exact .inl ⟨hsub, if_pos hsub⟩
  by_cases hsecond : c.second + 1 < 60
  · exact .inr (.inl ⟨by omega, hsecond, by rw [if_neg hsub, if_pos hsecond]⟩)
  rw [if_neg hsub, if_neg hsecond, Clock.carry]
  by_cases hminute : c.minute + 1 < 10080
  · exact .inr (.inr (.inl ⟨by omega, by omega, hminute, if_pos hminute⟩))
  · exact .inr (.inr (.inr ⟨by omega, by omega, by omega, if_neg hminute⟩))

theorem Clock.tick_isSet (c : Clock) : c.tick.isSet = c.isSet := by
  obtain ⟨-, h⟩ | ⟨-, -, h⟩ | ⟨-, -, -, h⟩ | ⟨-, -, -, h⟩ := c.tick_cases <;> rw [h]

/-- R3: a tick advances the time the clock shows by one millisecond, within its week count. -/
theorem Clock.tick_millis {c : Clock} (h : c.inRange) : c.tick.millis = (c.millis + 1) % 39636172800000 := by
  obtain ⟨hweek, hminute, hsecond, hsub⟩ := h
  obtain ⟨hs, h⟩ | ⟨hs, hc, h⟩ | ⟨hs, hc, hm, h⟩ | ⟨hs, hc, hm, h⟩ := c.tick_cases
  all_goals
    rw [h]
    simp only [Clock.millis]
    omega

/-- R7: a tick carries the second from 59 to 0 exactly when the clock then shows a whole minute. -/
theorem Clock.carries_iff {c : Clock} (h : c.inRange) : c.carries = true ↔ c.tick.millis % 60000 = 0 := by
  obtain ⟨hweek, hminute, hsecond, hsub⟩ := h
  simp only [Clock.carries, Bool.and_eq_true, Bool.not_eq_true', decide_eq_false_iff_not]
  obtain ⟨hs, h⟩ | ⟨hs, hc, h⟩ | ⟨hs, hc, hm, h⟩ | ⟨hs, hc, hm, h⟩ := c.tick_cases
  all_goals
    rw [h]
    simp only [Clock.millis]
    omega

/-- The station once its two clocks have counted a tick. -/
def clocksCounted (s : State) : State := countClock { s with timebase := s.timebase.tick }

theorem millisecondTick_eq {s : State} (pins : Pins) (h : powered s = true) :
    millisecondTick pins s = senseBell pins (sampleInputs pins (clocksCounted s)) := by
  rw [millisecondTick, if_pos h]
  rfl

theorem sampleInputs_changes (pins : Pins) (s : State) : ∃ d b f, sampleInputs pins s =
    { s with gate := { s.gate with door := d, button := b, freePassage := f } } := by
  unfold sampleInputs
  split
  · split
    · exact ⟨_, _, _, rfl⟩
    · split <;> exact ⟨_, _, _, rfl⟩
  · exact ⟨_, _, _, rfl⟩

theorem senseBell_changes (pins : Pins) (s : State) : ∃ a b c d, senseBell pins s =
    { s with bell := { s.bell with sum := a, number := b, aboveRun := c, highest := d } } := by
  unfold senseBell
  split <;> exact ⟨_, _, _, _, rfl⟩

theorem sampleInputs_of_not_moment {pins : Pins} {s : State} (h : sampleMoment s = false) : sampleInputs pins s = s := by
  simp [sampleInputs, h]

theorem senseBell_of_not_moment {pins : Pins} {s : State} (h : senseMoment s = false) : senseBell pins s = s := by
  simp [senseBell, h]

theorem sampleMoment_of_some {s : State} {start : Nat} (h : s.gate.sampleFrom = some start) :
    sampleMoment s = decide (elapsedSince s.now start % 2 = 0) := by
  unfold sampleMoment
  rw [h]

theorem senseMoment_of_some {s : State} {timer : Timer} (h : s.bell.timer = some timer) :
    senseMoment s = (running s && s.bell.sounder == .striking && decide (s.bell.aboveRun < 3) &&
      decide (50 ≤ elapsedSince s.now timer.start) && decide (elapsedSince s.now timer.start < timer.duration)) := by
  unfold senseMoment
  rw [h]
  rfl

theorem senseMoment_false {s : State} (h : running s = false ∨ s.bell.sounder ≠ .striking ∨ 3 ≤ s.bell.aboveRun) :
    senseMoment s = false := by
  unfold senseMoment
  split
  · rfl
  · obtain h | h | h := h
    · simp [h]
    · simp [h]
    · simp [Config.shortRun, Nat.not_lt.2 h]

theorem doorOpenLevel_eq (openLow high : Bool) : doorOpenLevel openLow high = if openLow then !high else high := by
  cases openLow <;> cases high <;> rfl

theorem Timebase.tick_elapsed (t : Timebase) : t.tick.elapsed = (t.elapsed + 1) % 4294967296 := by
  unfold Timebase.tick
  dsimp only
  split <;> rfl

theorem Timebase.tick_of_lt {t : Timebase} (h : t.msInSecond < 999) :
    t.tick = { t with elapsed := t.tick.elapsed, msInSecond := t.msInSecond + 1 } := by
  unfold Timebase.tick
  dsimp only
  rw [if_pos (by omega)]

theorem Timebase.tick_of_le {t : Timebase} (h : 999 ≤ t.msInSecond) :
    t.tick = { t with elapsed := t.tick.elapsed, msInSecond := 0, secondTrim := t.trim, secondTicksDue := t.secondTicksDue + 1 } := by
  unfold Timebase.tick
  dsimp only
  rw [if_neg (by omega)]

theorem Timebase.tick_trim (t : Timebase) : t.tick.trim = t.trim := by
  unfold Timebase.tick
  dsimp only
  split <;> rfl

/-- R64, R84: the inputs' samples at a tick, by the state of the station. -/
theorem sampleInputs_gate (pins : Pins) (s : State) :
    (s.gate.sampleFrom = none ∨ (running s = false ∧ unconfiguredMain s = false) → (sampleInputs pins s).gate = s.gate) ∧
      ∀ start, s.gate.sampleFrom = some start →
        (elapsedSince s.now start % 2 = 1 → (sampleInputs pins s).gate = s.gate) ∧
        (elapsedSince s.now start % 2 = 0 → running s = true → (sampleInputs pins s).gate = s.gate.sampleConfigured s.settings pins) ∧
        (elapsedSince s.now start % 2 = 0 → unconfiguredMain s = true →
          (sampleInputs pins s).gate = s.gate.sampleUnconfigured pins) := by
  refine ⟨fun h => ?_, fun start hstart => ⟨fun h => ?_, fun h hrun => ?_, fun h hun => ?_⟩⟩
  · obtain h | ⟨hrun, hun⟩ := h
    · rw [sampleInputs_of_not_moment]
      simp [sampleMoment, h]
    · simp [sampleInputs, hrun, hun]
  · rw [sampleInputs_of_not_moment]
    simp [sampleMoment_of_some hstart, h]
  · simp [sampleInputs, sampleMoment_of_some hstart, h, hrun]
  · have hrun : running s = false := by
      simp only [unconfiguredMain, Bool.and_eq_true, beq_iff_eq] at hun
      exact running_of_run (by simp [hun.2])
    simp [sampleInputs, sampleMoment_of_some hstart, h, hrun, hun]

theorem sampleConfigured_inputs (g : Gate) (c : Settings) (pins : Pins) (early : Bool) (he : early = decide (g.cycle = .off)) :
    (g.sampleConfigured c pins).button = g.button.sampled c.q pins.button pins.button early ∧
      (g.sampleConfigured c pins).freePassage = g.freePassage.sampled c.q pins.freePassage true early ∧
      (c.confirm = true →
        (g.sampleConfigured c pins).door = g.door.sampled c.q (if c.openLow then !pins.door else pins.door) true early) ∧
      (c.confirm = false → (g.sampleConfigured c pins).door = g.door) := by
  have hearly : early = (g.cycle == .off) := by rw [he, beq_eq_decide]
  subst hearly
  refine ⟨rfl, rfl, fun h => ?_, fun h => ?_⟩
  · simp [Gate.sampleConfigured, h, doorOpenLevel_eq]
  · simp [Gate.sampleConfigured, h]

/-- R132: the bell current's sample at a tick, by the stroke. -/
theorem senseBell_bell (pins : Pins) (s : State) :
    (running s = false ∨ s.bell.sounder ≠ .striking ∨ 3 ≤ s.bell.aboveRun → (senseBell pins s).bell = s.bell) ∧
      ∀ timer, s.bell.timer = some timer →
        (elapsedSince s.now timer.start < 50 ∨ timer.duration ≤ elapsedSince s.now timer.start →
          (senseBell pins s).bell = s.bell) ∧
        (running s = true → s.bell.sounder = .striking → s.bell.aboveRun < 3 → 50 ≤ elapsedSince s.now timer.start →
            elapsedSince s.now timer.start < timer.duration →
          (senseBell pins s).bell = s.bell.sample s.settings.shortLimit pins.sense.toNat) := by
  refine ⟨fun h => ?_, fun timer htimer => ⟨fun h => ?_, fun hrun hstrike habove hinrush hend => ?_⟩⟩
  · rw [senseBell_of_not_moment (senseMoment_false h)]
  · rw [senseBell_of_not_moment]
    rw [senseMoment_of_some htimer]
    obtain h | h := h
    · simp [Nat.not_le.2 h]
    · simp [Nat.not_lt.2 h]
  · simp [senseBell, senseMoment_of_some htimer, hrun, hstrike, habove, hinrush, hend]

/-- Settles O12: the two clocks, then the samples at the new elapsed time. -/
theorem millisecondTickCounts : Obligations.MillisecondTickCounts := by
  intro pins s hpower hclock
  refine ⟨_, congrArg Host.Outcome.next (millisecondTick_eq pins hpower), ?_⟩
  obtain ⟨hgate0, hgate⟩ := sampleInputs_gate pins (clocksCounted s)
  obtain ⟨hbell0, hbell⟩ := senseBell_bell pins (sampleInputs pins (clocksCounted s))
  obtain ⟨d, b, f, hinputs⟩ := sampleInputs_changes pins (clocksCounted s)
  rw [hinputs] at hgate0 hgate hbell0 hbell ⊢
  obtain ⟨w, x, y, z, hsense⟩ := senseBell_changes pins
    { clocksCounted s with gate := { (clocksCounted s).gate with door := d, button := b, freePassage := f } }
  rw [hsense] at hbell0 hbell ⊢
  have hnow : (clocksCounted s).now = s.timebase.tick.elapsed := rfl
  refine ⟨Timebase.tick_elapsed _, Timebase.tick_trim _, Timebase.tick_of_lt, Timebase.tick_of_le, Clock.tick_millis hclock,
    hclock.tick, Clock.tick_isSet _, ?_, rfl, hgate0, fun start hstart => ?_, rfl, hbell0, fun timer htimer => ?_, rfl⟩
  · change (if s.clock.carries then s.announcements ++ [advanceOf s.clock.tick] else s.announcements) = _
    by_cases h : s.clock.carries = true
    · rw [if_pos h]
      refine congrArg _ (if_pos ((Clock.carries_iff hclock).1 h)).symm
    · rw [if_neg h]
      refine Eq.symm ((congrArg _ (if_neg (mt (Clock.carries_iff hclock).2 h))).trans (List.append_nil _))
  · obtain ⟨hodd, hconfigured, hunconfigured⟩ := hgate start hstart
    refine ⟨hodd, fun heven hrun early he => ?_, hunconfigured⟩
    have hsampled := hconfigured heven hrun
    have hinputs := sampleConfigured_inputs s.gate s.settings pins early he
    change _ = s.gate.sampleConfigured s.settings pins at hsampled
    rw [← hsampled] at hinputs
    exact hinputs
  · obtain ⟨hout, hin⟩ := hbell timer htimer
    exact ⟨hout, fun hrun hstrike habove hinrush hend => hin hrun hstrike habove hinrush hend⟩

/-! ### Elapsed seconds, the beacon -/

theorem Peer.aged_eq (p : Peer) :
    p.aged = { p with age := min 65535 (p.age + 1), state := if min 65535 (p.age + 1) = 48 then .silent else p.state } := rfl

/-- Settles O18: the tick and the hold, each by its condition. -/
theorem elapsedSecondsAge : Obligations.ElapsedSecondsAge := by
  refine ⟨fun s k hpower hdue => congrArg Host.Outcome.next ?_, fun s n hpower hhold => ⟨fun h => congrArg Host.Outcome.next ?_,
    fun h => congrArg Host.Outcome.next ?_⟩⟩
  · rw [elapsedSecondTick, if_pos (by simp [hpower, hdue]), hdue]
    rfl
  · simp [duplicateHoldExpiry, hhold, hpower, Config.duplicateHold, h]
  · simp [duplicateHoldExpiry, hhold, Config.duplicateHold, Nat.not_le.2 h]

theorem beaconQueued_iff (s : State) : beaconQueued s = true ↔ ∃ f ∈ s.line.tx, f.payload = .beacon := by
  simp [beaconQueued]

theorem txSpace_pos_iff (s : State) : 1 ≤ txSpace s ↔ s.line.tx.length + s.line.reserved < 16 := by
  simp only [txSpace, Config.txMax]
  omega

theorem offer_of_room {s : State} (p : TxPayload) (c : Counter) (h : s.line.tx.length + s.line.reserved < 16) :
    offer p c s = enqueue p s := by
  rw [offer, if_pos ((txSpace_pos_iff s).2 h)]

theorem offer_of_full {s : State} (p : TxPayload) (c : Counter) (h : 16 ≤ s.line.tx.length + s.line.reserved) :
    offer p c s = bump c s := by
  rw [offer, if_neg (mt (txSpace_pos_iff s).1 (by omega))]

theorem queuedFrame_enqueue (p : TxPayload) (s : State) : queuedFrame s (enqueue p s) p := by
  unfold queuedFrame enqueue
  cases s.line.tx <;> rfl

/-- Settles O19: the beacon is queued, or skipped where one is queued or no slot is free. -/
theorem beaconFallsDue : Obligations.BeaconFallsDue := by
  intro s b hrun hbeacon hdue
  have he : beaconDue s =
      if beaconQueued s then bump .beaconSkipped { s with peers := { s.peers with beacon := some b.again } }
      else offer .beacon .beaconSkipped { s with peers := { s.peers with beacon := some b.again } } := by
    simp [beaconDue, hbeacon, hrun, hdue]
  refine ⟨_, congrArg Host.Outcome.next he, ?_, fun h => ?_, fun hnone hroom => ?_⟩
  · split
    · rfl
    · obtain ⟨x, n, k, h⟩ := offer_changes .beacon .beaconSkipped { s with peers := { s.peers with beacon := some b.again } }
      rw [h]
      rfl
  · have hskip : (if beaconQueued s then bump .beaconSkipped { s with peers := { s.peers with beacon := some b.again } }
        else offer .beacon .beaconSkipped { s with peers := { s.peers with beacon := some b.again } }) =
        bump .beaconSkipped { s with peers := { s.peers with beacon := some b.again } } := by
      split
      · rfl
      · rename_i hqueued
        exact offer_of_full _ _ (h.resolve_left (mt (beaconQueued_iff s).2 hqueued))
    rw [hskip]
    exact ⟨rfl, counter_bump_self _ _, rfl⟩
  · have hqueued : ¬beaconQueued s = true := fun h => by
      obtain ⟨f, hf, hpayload⟩ := (beaconQueued_iff s).1 h
      exact hnone f hf hpayload
    rw [if_neg hqueued, offer_of_room _ _ (by exact hroom)]
    exact ⟨queuedFrame_enqueue .beacon { s with peers := { s.peers with beacon := some b.again } }, rfl⟩

end Sys2Proof.Machine

/-! PROOFS. The qualification of an input, and the room of the peer table. -/

namespace Sys2Proof.Machine

/-! ### Input qualification (R64, R66) -/

theorem Input.sampled_of_accepted {i : Input} {a : Bool} (h : i.accepted = some a) (q : Nat) (level latches early : Bool) :
    i.sampled q level latches early = i.qualify q level a latches early := by
  unfold Input.sampled
  rw [h]

theorem Input.sampled_of_unknown {i : Input} (h : i.accepted = none) (q : Nat) (level latches early : Bool) :
    i.sampled q level latches early = i.establish q level := by
  unfold Input.sampled
  rw [h]

theorem Input.qualify_equal (i : Input) (q : Nat) (a latches early : Bool) :
    i.qualify q a a latches early = { i with count := 0 } := by
  rw [Input.qualify, if_pos rfl]

theorem Input.qualify_counts {i : Input} {q : Nat} {a : Bool} (latches early : Bool) (h : i.count + 1 < q) :
    i.qualify q (!a) a latches early = { i with count := i.count + 1 } := by
  rw [Input.qualify, if_neg (by simp), if_neg (by omega)]

theorem Input.qualify_accepts {i : Input} {q : Nat} {a : Bool} (latches early : Bool) (h : q ≤ i.count + 1) :
    i.qualify q (!a) a latches early =
      { i with accepted := some (!a), count := 0,
               latched := if latches then i.latched ++ [{ level := !a, early := early }] else i.latched } := by
  rw [Input.qualify, if_neg (by simp), if_pos h]

/-- R64: fewer differing samples than Q raise the count alone. -/
theorem Input.foldl_qualify {i : Input} {a : Bool} (ha : i.accepted = some a) (hcount : i.count = 0) (q : Nat)
    (latches early : Bool) (n : Nat) (hn : n < q) :
    (List.replicate n (!a)).foldl (fun j l => j.sampled q l latches early) i = { i with count := n } := by
  induction n with
  | zero => rw [List.replicate_zero, List.foldl_nil, ← hcount]
  | succ n ih =>
    rw [List.replicate_succ', List.foldl_append, ih (by omega)]
    exact (Input.sampled_of_accepted (i := { i with count := n }) ha q (!a) latches early).trans
      (Input.qualify_counts latches early hn)

theorem Input.establish_first {i : Input} {q : Nat} {level : Bool} (hs : i.sample ≠ some level) (hq : 1 < q) :
    i.establish q level = { i with sample := some level, count := 1 } := by
  rw [Input.establish, if_neg hs]
  exact if_neg (by omega)

theorem Input.establish_counts {i : Input} {q : Nat} {level : Bool} (hs : i.sample = some level) (hq : i.count + 1 < q) :
    i.establish q level = { i with count := i.count + 1 } := by
  rw [Input.establish, if_pos hs]
  refine (if_neg (by omega)).trans ?_
  rw [← hs]

theorem Input.establish_accepts {i : Input} {q : Nat} {level : Bool}
    (h : q ≤ if i.sample = some level then i.count + 1 else 1) :
    i.establish q level = { i with accepted := some level, sample := none, count := 0 } := by
  rw [Input.establish]
  exact if_pos h

/-- R66: fewer equal samples than Q, on an input with no accepted level, are counted alone. -/
theorem Input.foldl_establish {i : Input} {level : Bool} (ha : i.accepted = none) (hs : i.sample ≠ some level) (q : Nat)
    (latches early : Bool) (n : Nat) (hn : n + 1 < q) :
    (List.replicate (n + 1) level).foldl (fun j l => j.sampled q l latches early) i =
      { i with sample := some level, count := n + 1 } := by
  induction n with
  | zero => exact (Input.sampled_of_unknown ha q level latches early).trans (Input.establish_first hs hn)
  | succ n ih =>
    rw [List.replicate_succ', List.foldl_append, ih (by omega)]
    exact (Input.sampled_of_unknown (i := { i with sample := some level, count := n + 1 }) ha q level latches early).trans
      (Input.establish_counts rfl hn)

/-- Settles O13: the samples before the last are counted, the last accepts the level. -/
theorem inputsAreQualified : Obligations.InputsAreQualified := by
  refine ⟨fun i q n a latches early ha hcount hq => ⟨fun hn => Input.foldl_qualify ha hcount q latches early n hn, ?_, fun k => ?_⟩,
    fun i q n level latches early ha hs hq => ⟨fun h1 hn => ?_, ?_⟩⟩
  · obtain ⟨m, rfl⟩ : ∃ m, q = m + 1 := ⟨q - 1, by omega⟩
    rw [List.replicate_succ', List.foldl_append, Input.foldl_qualify ha hcount _ _ _ m (by omega)]
    refine ((Input.sampled_of_accepted (i := { i with count := m }) ha _ (!a) latches early).trans
      (Input.qualify_accepts latches early le_rfl)).trans ?_
    rw [← hcount]
  · refine ((Input.sampled_of_accepted (i := { i with count := k }) ha q a latches early).trans
      (Input.qualify_equal _ q a latches early)).trans ?_
    rw [← hcount]
  · obtain ⟨m, rfl⟩ : ∃ m, n = m + 1 := ⟨n - 1, by omega⟩
    exact Input.foldl_establish ha hs q latches early m hn
  · obtain ⟨m, rfl⟩ : ∃ m, q = m + 1 := ⟨q - 1, by omega⟩
    cases m with
    | zero =>
      exact (Input.sampled_of_unknown ha _ level latches early).trans (Input.establish_accepts (by rw [if_neg hs]))
    | succ m =>
      rw [List.replicate_succ', List.foldl_append, Input.foldl_establish ha hs _ _ _ m (by omega)]
      exact (Input.sampled_of_unknown (i := { i with sample := some level, count := m + 1 }) ha _ level latches early).trans
        (Input.establish_accepts (by rw [if_pos rfl]))

/-! ### The peer table (R16, R17) -/

/-- R17: the greatest age of the SILENT entries, when they reach it and do not pass it. -/
theorem foldl_oldestSilent (m : Nat) (l : List Peer) (best : Option Nat) (hle : ∀ p ∈ l, p.state = .silent → p.age ≤ m)
    (hbest : ∀ x, best = some x → x ≤ m) (hreach : best = some m ∨ ∃ p ∈ l, p.state = .silent ∧ p.age = m) :
    l.foldl (fun best p => if p.state = .silent then (match best with | none => some p.age | some a => some (max a p.age)) else best)
      best = some m := by
  induction l generalizing best with
  | nil => exact hreach.resolve_right (by simp)
  | cons p rest ih =>
    rw [List.foldl_cons]
    have hrest : ∀ q ∈ rest, q.state = .silent → q.age ≤ m := fun q hq => hle q (List.mem_cons_of_mem _ hq)
    by_cases hsilent : p.state = .silent
    · rw [if_pos hsilent]
      have hage := hle p List.mem_cons_self hsilent
      have hreach' : best = some m ∨ p.age = m ∨ ∃ q ∈ rest, q.state = .silent ∧ q.age = m := by
        obtain h | ⟨q, hq, h⟩ := hreach
        · exact .inl h
        · obtain rfl | hq := List.mem_cons.1 hq
          · exact .inr (.inl h.2)
          · exact .inr (.inr ⟨q, hq, h⟩)
      cases best with
      | none =>
        refine ih _ hrest ?_ ?_
        · rintro x ⟨⟩
          exact hage
        · obtain h | h | h := hreach'
          · exact nomatch h
          · exact .inl (by rw [h])
          · exact .inr h
      | some a =>
        have ha := hbest a rfl
        refine ih _ hrest ?_ ?_
        · rintro x ⟨⟩
          omega
        · obtain h | h | h := hreach'
          · exact .inl (congrArg some (by have := Option.some.inj h; omega))
          · exact .inl (congrArg some (by omega))
          · exact .inr h
    · rw [if_neg hsilent]
      refine ih _ hrest hbest (hreach.imp_right ?_)
      rintro ⟨q, hq, h⟩
      obtain rfl | hq := List.mem_cons.1 hq
      · exact absurd h.1 hsilent
      · exact ⟨q, hq, h⟩

theorem oldestSilent_of_live {l : List Peer} (h : ∀ q ∈ l, q.state = .live) : oldestSilent l = none := by
  unfold oldestSilent
  induction l with
  | nil => rfl
  | cons p rest ih =>
    rw [List.foldl_cons, if_neg (by rw [h p List.mem_cons_self]; decide)]
    exact ih fun q hq => h q (List.mem_cons_of_mem _ hq)

theorem dropSilent_append {q : Peer} (hq : q.state = .silent) (a b : List Peer) (ha : ∀ r ∈ a, r.state = .silent → r.age < q.age) :
    dropSilent q.age (a ++ q :: b) = a ++ b := by
  induction a with
  | nil => simp [dropSilent, hq]
  | cons p rest ih =>
    have hp : ¬(p.state = .silent ∧ p.age = q.age) := fun h => by
      have := ha p List.mem_cons_self h.1
      omega
    rw [List.cons_append, dropSilent, if_neg hp, ih fun r hr => ha r (List.mem_cons_of_mem _ hr)]
    rfl

theorem tableWith_of_known {p : Peer} {l : List Peer} (h : ∃ q ∈ l, q.station = p.station) :
    tableWith p l = some (l.map (fun q => if q.station = p.station then p else q)) := by
  have hany : l.any (fun q => decide (q.station = p.station)) = true := by simpa using h
  rw [tableWith, if_pos hany]

theorem tableWith_of_new {p : Peer} {l : List Peer} (h : ∀ q ∈ l, q.station ≠ p.station) : tableWith p l =
    if l.length < 32 then some (l ++ [p])
    else match oldestSilent l with
      | none => none
      | some age => some (dropSilent age l ++ [p]) := by
  have hany : ¬l.any (fun q => decide (q.station = p.station)) = true := by simpa using h
  rw [tableWith, if_neg hany]
  rfl

theorem tablePeer_of_table {p : Peer} {s : State} {l : List Peer} (h : tableWith p s.peers.entries = some l) :
    tablePeer p s = { s with peers := { s.peers with entries := l } } := by
  unfold tablePeer
  rw [h]

/-- Settles O17: the table by whether the station is known, has room, and holds a SILENT entry. -/
theorem peerTableMakesRoom : Obligations.PeerTableMakesRoom := by
  refine ⟨fun p s h => tablePeer_of_table (tableWith_of_known h), fun p s hnew => ⟨fun hroom => ?_,
    fun a q b hsplit hfull hsilent ha hb => ?_, fun hfull hlive => ?_⟩⟩
  · exact tablePeer_of_table (by rw [tableWith_of_new hnew, if_pos hroom])
  · have holdest : oldestSilent s.peers.entries = some q.age := by
      rw [hsplit]
      refine foldl_oldestSilent q.age _ none (fun r hr hrs => ?_) nofun (.inr ⟨q, by simp, hsilent, rfl⟩)
      obtain hr | hr := List.mem_append.1 hr
      · exact (ha r hr hrs).le
      · obtain rfl | hr := List.mem_cons.1 hr
        · exact le_rfl
        · exact hb r hr hrs
    refine tablePeer_of_table ?_
    rw [tableWith_of_new hnew, if_neg (by omega), holdest]
    dsimp only
    rw [hsplit, dropSilent_append hsilent a b ha]
  · have hnone : tableWith p s.peers.entries = none := by
      rw [tableWith_of_new hnew, if_neg (by omega), oldestSilent_of_live hlive]
    unfold tablePeer
    rw [hnone]

end Sys2Proof.Machine

/-! PROOFS. The firing of a schedule entry: its ring, its notice and its rush window (R122, R123, R127, R136). -/

namespace Sys2Proof.Machine

/-! ### The ring of a fired entry -/

/-- The ring of the entry at an index. -/
def entryRing (s : State) (i : Nat) : Ring := { pattern := (s.settings.bell i).pattern, origin := .scheduled }

theorem fireRing_of_faulted {s : State} (i : Nat) (h : s.bell.state ≠ .ready) : fireRing i s = bump .bellSkipped s := by
  rw [fireRing, if_neg h]

theorem ringsFull_iff (s : State) : ringsFull s = true ↔ 4 ≤ s.bell.queue.length := decide_eq_true_iff

theorem fireRing_of_full {s : State} (i : Nat) (h : s.bell.state = .ready) (hfull : 4 ≤ s.bell.queue.length) :
    fireRing i s = bump .ringDropped s := by
  rw [fireRing, if_pos h, if_pos ((ringsFull_iff s).2 hfull)]

theorem fireRing_of_room {s : State} (i : Nat) (h : s.bell.state = .ready) (hroom : s.bell.queue.length < 4) :
    fireRing i s = ringJoin (entryRing s i) s := by
  rw [fireRing, if_pos h, if_neg (mt (ringsFull_iff s).1 (by omega))]
  rfl

theorem startRings_of_sounding {s : State} (h : s.bell.sounder ≠ .quiet) : startRings s = s := by
  rw [startRings, if_neg h]

theorem ringJoin_of_sounding {s : State} (r : Ring) (h : s.bell.sounder ≠ .quiet) :
    ringJoin r s = { s with bell := { s.bell with queue := s.bell.queue ++ [r] } } :=
  startRings_of_sounding (s := { s with bell := { s.bell with queue := s.bell.queue ++ [r] } }) h

theorem ringJoin_of_quiet {s : State} (r : Ring) (hready : s.bell.state = .ready) (hquiet : s.bell.sounder = .quiet)
    (hempty : s.bell.queue = []) : ringJoin r s =
      { s with bell := { s.bell with
          sounder := .striking, current := some (.ring r (r.pattern.strokes - 1))
          timer := some { start := s.now, duration := r.pattern.strokeLength }, sum := 0, number := 0, aboveRun := 0
          highest := 0 } } := by
  unfold ringJoin startRings
  rw [if_pos (by exact hquiet)]
  simp only [hempty, List.nil_append]
  rw [if_pos hready, ← hempty]
  rfl

/-- R129: whatever the ring queue holds, a ring that joins it raises no counter while the bell is READY. -/
theorem ringJoin_counters {s : State} (r : Ring) (h : s.bell.state = .ready) : (ringJoin r s).counters = s.counters := by
  by_cases hsounder : s.bell.sounder = .quiet
  · unfold ringJoin startRings
    rw [if_pos (by exact hsounder)]
    split
    · rfl
    · rw [if_pos (by exact h)]
  · rw [ringJoin_of_sounding _ hsounder]

theorem fireRing_counter_dropped {s : State} (i : Nat) (h : s.bell.state ≠ .ready ∨ s.bell.queue.length < 4) :
    (fireRing i s).counter .ringDropped = s.counter .ringDropped := by
  by_cases hready : s.bell.state = .ready
  · rw [fireRing_of_room i hready (h.resolve_left fun hn => hn hready), State.counter, ringJoin_counters _ hready]
    rfl
  · rw [fireRing_of_faulted i hready]
    exact (counter_bump _ _ _).trans (if_neg (by decide))

theorem fireRing_counter_skipped {s : State} (i : Nat) (h : s.bell.state = .ready) :
    (fireRing i s).counter .bellSkipped = s.counter .bellSkipped := by
  by_cases hroom : s.bell.queue.length < 4
  · rw [fireRing_of_room i h hroom, State.counter, ringJoin_counters _ h]
    rfl
  · rw [fireRing_of_full i h (by omega)]
    exact (counter_bump _ _ _).trans (if_neg (by decide))

theorem fireRing_counter_other (i : Nat) (s : State) (k : Counter) (hd : k ≠ .ringDropped) (hs : k ≠ .bellSkipped) :
    (fireRing i s).counter k = s.counter k := by
  by_cases hready : s.bell.state = .ready
  · by_cases hroom : s.bell.queue.length < 4
    · rw [fireRing_of_room i hready hroom, State.counter, ringJoin_counters _ hready]
      rfl
    · rw [fireRing_of_full i hready (by omega)]
      exact (counter_bump _ _ _).trans (if_neg (Ne.symm hd))
  · rw [fireRing_of_faulted i hready]
    exact (counter_bump _ _ _).trans (if_neg (Ne.symm hs))

/-- R129: a ring touches neither the marks nor the rush window, and while the sounder is not QUIET not the sounder. -/
theorem fireRing_keeps (i : Nat) (s : State) :
    (fireRing i s).bell.marks = s.bell.marks ∧ (fireRing i s).bell.rush = s.bell.rush ∧ (fireRing i s).bell.state = s.bell.state ∧
      (s.bell.sounder ≠ .quiet →
        (fireRing i s).bell.sounder = s.bell.sounder ∧ (fireRing i s).bell.timer = s.bell.timer) := by
  by_cases hready : s.bell.state = .ready
  · by_cases hroom : s.bell.queue.length < 4
    · rw [fireRing_of_room i hready hroom]
      by_cases hsounder : s.bell.sounder = .quiet
      · refine ⟨?_, ?_, ?_, fun h => absurd hsounder h⟩
        all_goals
          unfold ringJoin startRings
          rw [if_pos (by exact hsounder)]
          split
          · rfl
          · rw [if_pos (by exact hready)]
            rfl
      · rw [ringJoin_of_sounding _ hsounder]
        exact ⟨rfl, rfl, rfl, fun _ => ⟨rfl, rfl⟩⟩
    · rw [fireRing_of_full i hready (by omega)]
      exact ⟨rfl, rfl, rfl, fun _ => ⟨rfl, rfl⟩⟩
  · rw [fireRing_of_faulted i hready]
    exact ⟨rfl, rfl, rfl, fun _ => ⟨rfl, rfl⟩⟩

/-! ### Its notice -/

theorem fireNotice_bell (c : Stamp) (i : Nat) (own : Bool) (s : State) : (fireNotice c i own s).bell = s.bell := by
  obtain ⟨x, n, k, h⟩ := fireNotice_changes c i own s
  rw [h]

theorem offer_counter_other (p : TxPayload) (c k : Counter) (s : State) (h : k ≠ c) : (offer p c s).counter k = s.counter k := by
  unfold offer
  split
  · rfl
  · exact (counter_bump _ _ _).trans (if_neg (Ne.symm h))

theorem fireNotice_counter_other (c : Stamp) (i : Nat) (own : Bool) (s : State) (k : Counter) (h : k ≠ .ringNoticeSkipped) :
    (fireNotice c i own s).counter k = s.counter k := by
  cases own
  · rfl
  · exact offer_counter_other _ _ k s h

/-! ### Its rush window -/

theorem fireRush_bell (c : Stamp) (i : Nat) (s : State) :
    (fireRush c i s).bell = { s.bell with rush := (fireRush c i s).bell.rush } := by
  obtain ⟨r, h⟩ := fireRush_changes c i s
  rw [h]

theorem fireRush_counters (c : Stamp) (i : Nat) (s : State) : (fireRush c i s).counters = s.counters := by
  obtain ⟨r, h⟩ := fireRush_changes c i s
  rw [h]

theorem fireRush_line (c : Stamp) (i : Nat) (s : State) : (fireRush c i s).line = s.line := by
  obtain ⟨r, h⟩ := fireRush_changes c i s
  rw [h]

/-- R136: what the rush window becomes at a fired entry, by the end the entry gives it. -/
theorem fireRush_rush (c : Stamp) (i : Nat) (s : State) (stop : Nat)
    (hstop : stop = absAdd (absMinute c.week (dayOfWeek c.minute * 1440 + (s.settings.bell i).minute)) (s.settings.bell i).rush) :
    ((s.settings.bell i).rush = 0 ∨ 0 ≤ absDiff s.clock.abs stop → (fireRush c i s).bell.rush = s.bell.rush) ∧
      (0 < (s.settings.bell i).rush → absDiff s.clock.abs stop < 0 →
        (s.bell.rush = none → (fireRush c i s).bell.rush = some stop) ∧
          ∀ old, s.bell.rush = some old → (fireRush c i s).bell.rush = some (if absDiff old stop < 0 then stop else old)) := by
  have he : fireRush c i s = if 0 < (s.settings.bell i).rush then openRush stop s else s := by rw [hstop]; rfl
  rw [he]
  refine ⟨fun h => ?_, fun hpos hbefore => ?_⟩
  · split
    · rename_i hpos
      obtain h | h := h
      · omega
      · rw [openRush, if_pos h]
    · rfl
  · rw [if_pos hpos, openRush, if_neg (by omega)]
    exact ⟨fun h => by simp [h], fun old h => by simp [h, laterMinute]⟩

/-! ### A fired entry -/

theorem setMark_keeps (i : Nat) (s : State) : (setMark i s).bell = { s.bell with marks := (setMark i s).bell.marks } := rfl

/-- The bell after a firing is the one its ring leaves, but for the rush window. -/
theorem fireEntry_bell (c : Stamp) (i : Nat) (own : Bool) (s : State) : (fireEntry c i own s).bell =
    { (fireRing i (setMark i s)).bell with rush := (fireEntry c i own s).bell.rush } := by
  have h := fireRush_bell c i (fireNotice c i own (fireRing i (setMark i s)))
  rw [fireNotice_bell] at h
  exact h

theorem fireEntry_marks (c : Stamp) (i : Nat) (own : Bool) (s : State) :
    (fireEntry c i own s).bell.marks = (setMark i s).bell.marks := by
  rw [fireEntry_bell]
  exact (fireRing_keeps i (setMark i s)).1

theorem fireEntry_counter (c : Stamp) (i : Nat) (own : Bool) (s : State) (k : Counter) (h : k ≠ .ringNoticeSkipped) :
    (fireEntry c i own s).counter k = (fireRing i (setMark i s)).counter k := by
  rw [fireEntry, State.counter, fireRush_counters]
  exact fireNotice_counter_other c i own _ k h

theorem fireEntry_counter_other (c : Stamp) (i : Nat) (own : Bool) (s : State) (k : Counter) (hn : k ≠ .ringNoticeSkipped)
    (hd : k ≠ .ringDropped) (hs : k ≠ .bellSkipped) : (fireEntry c i own s).counter k = s.counter k :=
  (fireEntry_counter c i own s k hn).trans (fireRing_counter_other i (setMark i s) k hd hs)

theorem fireNotice_environment (c : Stamp) (i : Nat) (own : Bool) (s : State) :
    (fireNotice c i own (fireRing i (setMark i s))).settings = s.settings ∧
      (fireNotice c i own (fireRing i (setMark i s))).clock = s.clock ∧
      (fireNotice c i own (fireRing i (setMark i s))).bell.rush = s.bell.rush := by
  refine ⟨?_, ?_, ?_⟩
  · obtain ⟨x, n, k, h⟩ := fireNotice_changes c i own (fireRing i (setMark i s))
    obtain ⟨b, k', h'⟩ := fireRing_changes i (setMark i s)
    rw [h, h']
    rfl
  · obtain ⟨x, n, k, h⟩ := fireNotice_changes c i own (fireRing i (setMark i s))
    obtain ⟨b, k', h'⟩ := fireRing_changes i (setMark i s)
    rw [h, h']
    rfl
  · rw [fireNotice_bell]
    exact (fireRing_keeps i (setMark i s)).2.1

/-- R123, R129, R136: the bell at a firing or a following. -/
theorem bellFollows_fireEntry (c : Stamp) (i : Nat) (own : Bool) (s : State) : bellFollows s (fireEntry c i own s) c i := by
  intro e stop he hstop
  subst he
  have hbell := fireEntry_bell c i own s
  have hmarks := fireEntry_marks c i own s
  obtain ⟨hsettings, hclock, hrush⟩ := fireNotice_environment c i own s
  have hdropped := fireEntry_counter c i own s .ringDropped (by decide)
  have hskipped := fireEntry_counter c i own s .bellSkipped (by decide)
  refine ⟨fun hready hquiet hempty => ?_, fun hready hsounds hroom => ?_, fun hready hfull => ?_, fun hfaulted => ?_,
    fun h => hdropped.trans (fireRing_counter_dropped i h), fun h => hskipped.trans (fireRing_counter_skipped i h), fun h => ?_,
    fun hpos hbefore => ?_⟩
  · rw [fireRing_of_room (s := setMark i s) i hready (by simp [setMark, hempty]),
      ringJoin_of_quiet (s := setMark i s) _ hready hquiet hempty] at hbell
    rw [hmarks]
    exact hbell
  · rw [fireRing_of_room (s := setMark i s) i hready hroom, ringJoin_of_sounding (s := setMark i s) _ hsounds] at hbell
    rw [hmarks]
    exact hbell
  · rw [fireRing_of_full (s := setMark i s) i hready hfull] at hbell hdropped
    rw [hmarks]
    exact ⟨hbell, hdropped.trans (counter_bump_self _ _)⟩
  · rw [fireRing_of_faulted (s := setMark i s) i hfaulted] at hbell hskipped
    rw [hmarks]
    exact ⟨hbell, hskipped.trans (counter_bump_self _ _)⟩
  · have hkept := (fireRush_rush c i (fireNotice c i own (fireRing i (setMark i s))) stop (by rw [hsettings]; exact hstop)).1
    rw [hsettings, hclock, hrush] at hkept
    exact hkept h
  · have hopened := (fireRush_rush c i (fireNotice c i own (fireRing i (setMark i s))) stop (by rw [hsettings]; exact hstop)).2
    rw [hsettings, hclock, hrush] at hopened
    exact hopened hpos hbefore

/-- R123, R127: an own firing. -/
theorem firedOwn_fireEntry (c : Stamp) (i : Nat) (s : State) : firedOwn s (fireEntry c i true s) c i := by
  have hline : (fireEntry c i true s).line = (fireNotice c i true (fireRing i (setMark i s))).line := fireRush_line ..
  have hskipped : (fireEntry c i true s).counter .ringNoticeSkipped =
      (fireNotice c i true (fireRing i (setMark i s))).counter .ringNoticeSkipped := by
    rw [fireEntry, State.counter, fireRush_counters]
    rfl
  have hcounter := fireRing_counter_other i (setMark i s) .ringNoticeSkipped (by decide) (by decide)
  obtain ⟨b, k, hring⟩ := fireRing_changes i (setMark i s)
  have hringLine : (fireRing i (setMark i s)).line = s.line := by rw [hring]; rfl
  refine ⟨fun hroom => ?_, fun hfull => ?_, bellFollows_fireEntry c i true s⟩
  · have hoffer : fireNotice c i true (fireRing i (setMark i s)) =
        enqueue (.ring (ringNotice c (fireRing i (setMark i s)) i)) (fireRing i (setMark i s)) :=
      offer_of_room _ _ (by rw [hringLine]; exact hroom)
    have hqueued := queuedFrame_enqueue (.ring (ringNotice c (fireRing i (setMark i s)) i)) (fireRing i (setMark i s))
    rw [hoffer] at hline hskipped
    refine ⟨?_, hskipped.trans hcounter⟩
    unfold queuedFrame at hqueued ⊢
    rw [hline, hqueued, hringLine, hring]
    rfl
  · have hoffer : fireNotice c i true (fireRing i (setMark i s)) = bump .ringNoticeSkipped (fireRing i (setMark i s)) :=
      offer_of_full _ _ (by rw [hringLine]; exact hfull)
    rw [hoffer] at hline hskipped
    exact ⟨hline.trans hringLine, hskipped.trans ((counter_bump_self _ _).trans (by rw [hcounter]; rfl))⟩

/-! ### States alike for the bell -/

/-- Two states in which the bell, but for its marks, the line, the clock and the counters of firing stand alike. -/
structure firesAlike (s u : State) : Prop where
  settings : u.settings = s.settings
  clock    : u.clock = s.clock
  now      : u.now = s.now
  line     : u.line = s.line
  bell     : u.bell = { s.bell with marks := u.bell.marks }
  counters : ∀ k ∈ [Counter.ringNoticeSkipped, .ringDropped, .bellSkipped], u.counter k = s.counter k

/-- Two results of firing whose bells, but for the marks, lines and counters of firing are alike. -/
structure firedAlike (t u : State) : Prop where
  line     : u.line = t.line
  bell     : u.bell = { t.bell with marks := u.bell.marks }
  counters : ∀ k ∈ [Counter.ringNoticeSkipped, .ringDropped, .bellSkipped], u.counter k = t.counter k

theorem firesAlike.fired {s u : State} (h : firesAlike s u) : firedAlike s u := ⟨h.line, h.bell, h.counters⟩

theorem firedAlike.refl (s : State) : firedAlike s s := ⟨rfl, rfl, fun _ _ => rfl⟩

theorem firedAlike.trans {s t u : State} (h : firedAlike s t) (g : firedAlike t u) : firedAlike s u :=
  ⟨g.line.trans h.line, by rw [g.bell, h.bell], fun k hk => (g.counters k hk).trans (h.counters k hk)⟩

theorem firedAlike.symm {s t : State} (h : firedAlike s t) : firedAlike t s :=
  ⟨h.line.symm, by rw [h.bell], fun k hk => (h.counters k hk).symm⟩

theorem firedAlike.rush {s t : State} (h : firedAlike s t) : t.bell.rush = s.bell.rush := by rw [h.bell]

theorem bellFollows_congr {s s' t t' : State} {c : Stamp} {i : Nat} (hs : firesAlike s s') (ht : firedAlike t t')
    (h : bellFollows s t c i) : bellFollows s' t' c i := by
  intro e stop he hstop
  rw [hs.settings] at he
  have hnow : s'.now = s.now := hs.now
  have hstate : s'.bell.state = s.bell.state := by rw [hs.bell]
  have hsounder : s'.bell.sounder = s.bell.sounder := by rw [hs.bell]
  have hqueue : s'.bell.queue = s.bell.queue := by rw [hs.bell]
  have hrush : s'.bell.rush = s.bell.rush := by rw [hs.bell]
  have hbell : t'.bell = { t.bell with marks := t'.bell.marks } := ht.bell
  have hrush' : t'.bell.rush = t.bell.rush := ht.rush
  have hdropped := hs.counters .ringDropped (by simp)
  have hskipped := hs.counters .bellSkipped (by simp)
  have hdropped' := ht.counters .ringDropped (by simp)
  have hskipped' := ht.counters .bellSkipped (by simp)
  obtain ⟨hquiet, hwaits, hfull, hfaulted, hkeptD, hkeptS, hclosed, hopened⟩ := h e stop he hstop
  rw [hdropped', hskipped', hstate, hsounder, hqueue, hrush, hdropped, hskipped, hrush', hs.clock]
  refine ⟨fun hr hq he => ?_, fun hr hq he => ?_, fun hr hf => ⟨?_, (hfull hr hf).2⟩, fun hf => ⟨?_, (hfaulted hf).2⟩, hkeptD, hkeptS,
    hclosed, hopened⟩
  · rw [hbell, hquiet hr hq he, hs.bell, hnow]
  · rw [hbell, hwaits hr hq he, hs.bell]
  · rw [hbell, (hfull hr hf).1, hs.bell]
  · rw [hbell, (hfaulted hf).1, hs.bell]

theorem firedOwn_congr {s s' t t' : State} {c : Stamp} {i : Nat} (hs : firesAlike s s') (ht : firedAlike t t')
    (h : firedOwn s t c i) : firedOwn s' t' c i := by
  obtain ⟨hroom, hfull, hbell⟩ := h
  have hcounter := hs.counters .ringNoticeSkipped (by simp)
  have hcounter' := ht.counters .ringNoticeSkipped (by simp)
  refine ⟨fun hlen => ?_, fun hlen => ?_, bellFollows_congr hs ht hbell⟩
  · rw [hs.line] at hlen
    obtain ⟨hqueued, hkept⟩ := hroom hlen
    unfold queuedFrame at hqueued ⊢
    rw [ht.line, hqueued, hs.line, hs.settings, hcounter, hcounter', hkept]
    exact ⟨rfl, rfl⟩
  · rw [hs.line] at hlen ⊢
    rw [ht.line, hcounter, hcounter']
    exact hfull hlen

/-- Firing in turn sees of the states only what firing sees. -/
theorem firedInTurn_congr {c : Stamp} {l : List Nat} {s s' t t' : State} (hs : firesAlike s s') (ht : firedAlike t t')
    (h : firedInTurn c l s t) : firedInTurn c l s' t' := by
  induction l generalizing s s' with
  | nil =>
    obtain ⟨hline, hbell, hcounters⟩ := h
    have hst : firedAlike s t := ⟨hline, hbell, hcounters⟩
    have hend := (hs.fired.symm.trans hst).trans ht
    exact ⟨hend.line, hend.bell, hend.counters⟩
  | cons i rest ih =>
    obtain ⟨u, hu, hown, hrest⟩ := h
    refine ⟨{ s' with line := u.line, bell := u.bell, counters := u.counters }, rfl,
      firedOwn_congr hs ⟨rfl, rfl, fun _ _ => rfl⟩ hown, ih ?_ hrest⟩
    rw [hu]
    exact ⟨hs.settings, hs.clock, hs.now, rfl, rfl, fun _ _ => rfl⟩

theorem firedOwn_of_firedInTurn {c : Stamp} {i : Nat} {s t : State} (h : firedInTurn c [i] s t) : firedOwn s t c i := by
  obtain ⟨u, hu, hown, hline, hbell, hcounters⟩ := h
  exact firedOwn_congr ⟨rfl, rfl, rfl, rfl, rfl, fun _ _ => rfl⟩ ⟨hline, hbell, hcounters⟩ hown

end Sys2Proof.Machine

/-! PROOFS. Entries taken one after another: fired or missed, at an announcement or a step of the clock. -/

namespace Sys2Proof.Machine

/-! ### Marks -/

theorem marked_eq (s : State) (i : Nat) (h : i < 32) : marked s i = s.bell.marks[i] := by
  unfold marked
  rw [List.getD_eq_getElem _ _ (by simpa using h)]
  simp

theorem marked_setMark {i j : Nat} (s : State) (hj : j < 32) : marked (setMark i s) j = (marked s j || decide (i = j)) := by
  rw [marked_eq _ _ hj, marked_eq _ _ hj]
  change (s.bell.marks.setIfInBounds i true)[j] = _
  rw [Vector.getElem_setIfInBounds]
  by_cases h : i = j <;> simp [h]

theorem marked_clearMarks {j : Nat} (s : State) (hj : j < 32) : marked (clearMarks s) j = false := by
  rw [marked_eq _ _ hj]
  exact Vector.getElem_replicate ..

theorem marked_newDay {j : Nat} (d : Bool) (s : State) (hj : j < 32) : marked (newDay d s) j = (!d && marked s j) := by
  cases d
  · rfl
  · exact marked_clearMarks s hj

theorem marked_congr {s t : State} (h : t.bell.marks = s.bell.marks) (i : Nat) : marked t i = marked s i := by
  simp only [marked, h]

/-! ### One entry after another -/

/-- R122, R124: an entry is taken: it fires, or is marked and counted. -/
def takeEntry (c : Stamp) (fires : Nat → Bool) (s : State) (i : Nat) : State :=
  if fires i then fireEntry c i true s else missEntry i s

/-- Entries are taken one after another. -/
def takeEntries (c : Stamp) (fires : Nat → Bool) (l : List Nat) (s : State) : State := l.foldl (takeEntry c fires) s

theorem takeEntry_changes (c : Stamp) (fires : Nat → Bool) (s : State) (i : Nat) : ∃ b x n k, takeEntry c fires s i =
    { s with bell := b, line := { s.line with tx := x, backoff := n }, counters := k } := by
  unfold takeEntry
  split
  · exact fireEntry_changes c i true s
  · exact ⟨_, _, _, _, rfl⟩

theorem takeEntries_changes (c : Stamp) (fires : Nat → Bool) (l : List Nat) (s : State) : ∃ b x n k, takeEntries c fires l s =
    { s with bell := b, line := { s.line with tx := x, backoff := n }, counters := k } :=
  foldl_changes _ (fun u i => takeEntry_changes c fires u i) l s

theorem takeEntry_marks (c : Stamp) (fires : Nat → Bool) (s : State) (i : Nat) :
    (takeEntry c fires s i).bell.marks = (setMark i s).bell.marks := by
  unfold takeEntry
  split
  · exact fireEntry_marks c i true s
  · rfl

theorem marked_takeEntries (c : Stamp) (fires : Nat → Bool) (l : List Nat) (s : State) {j : Nat} (hj : j < 32) :
    marked (takeEntries c fires l s) j = (marked s j || decide (j ∈ l)) := by
  induction l generalizing s with
  | nil => simp [takeEntries]
  | cons i rest ih =>
    have hmark : marked (takeEntry c fires s i) j = (marked s j || decide (i = j)) :=
      (marked_congr (takeEntry_marks c fires s i) j).trans (marked_setMark s hj)
    have hstep := ih (takeEntry c fires s i)
    rw [hmark, Bool.or_assoc, ← Bool.decide_or] at hstep
    refine hstep.trans ?_
    simp only [List.mem_cons, eq_comm]

/-- R122, R124: a counter that no firing raises and no miss is left. -/
theorem takeEntry_counter_other (c : Stamp) (fires : Nat → Bool) (s : State) (i : Nat) (k : Counter) (hm : k ≠ .entryMissed)
    (hn : k ≠ .ringNoticeSkipped) (hd : k ≠ .ringDropped) (hs : k ≠ .bellSkipped) :
    (takeEntry c fires s i).counter k = s.counter k := by
  unfold takeEntry
  split
  · exact fireEntry_counter_other c i true s k hn hd hs
  · exact (counter_bump _ _ _).trans (if_neg (Ne.symm hm))

theorem takeEntries_counter_other (c : Stamp) (fires : Nat → Bool) (l : List Nat) (s : State) (k : Counter) (hm : k ≠ .entryMissed)
    (hn : k ≠ .ringNoticeSkipped) (hd : k ≠ .ringDropped) (hs : k ≠ .bellSkipped) :
    (takeEntries c fires l s).counter k = s.counter k := by
  induction l generalizing s with
  | nil => rfl
  | cons i rest ih => exact (ih _).trans (takeEntry_counter_other c fires s i k hm hn hd hs)

theorem takeEntry_missed (c : Stamp) (fires : Nat → Bool) (s : State) (i : Nat) : (takeEntry c fires s i).counter .entryMissed =
    if fires i then s.counter .entryMissed else min 65535 (s.counter .entryMissed + 1) := by
  unfold takeEntry
  split
  · exact fireEntry_counter_other c i true s _ (by decide) (by decide) (by decide)
  · exact counter_bump_self _ _

/-- R124, R126: every entry that does not fire is counted once. -/
theorem takeEntries_missed (c : Stamp) (fires : Nat → Bool) (l : List Nat) (s : State) :
    (takeEntries c fires l s).counter .entryMissed = if l.any (fun i => !fires i) then
      min 65535 (s.counter .entryMissed + (l.filter (fun i => !fires i)).length) else s.counter .entryMissed := by
  induction l generalizing s with
  | nil => rfl
  | cons i rest ih =>
    have hstep := ih (takeEntry c fires s i)
    rw [takeEntry_missed] at hstep
    refine hstep.trans ?_
    cases hi : fires i with
    | true => simp [hi]
    | false =>
      by_cases hrest : rest.any (fun i => !fires i) = true
      · simp only [hi, hrest, List.any_cons, List.filter_cons, Bool.not_false, Bool.true_or, if_true, List.length_cons,
          Bool.false_eq_true, if_false]
        omega
      · have hnone : rest.filter (fun i => !fires i) = [] := by
          simpa [List.filter_eq_nil_iff] using hrest
        simp [hi, hrest, hnone]

/-! ### Firing in turn -/

theorem missEntry_alike (i : Nat) (s : State) : firesAlike s (missEntry i s) := by
  refine ⟨rfl, rfl, rfl, rfl, rfl, fun k hk => (counter_bump _ _ _).trans (if_neg ?_)⟩
  rintro rfl
  simp at hk

theorem firesAlike.symm {s u : State} (h : firesAlike s u) : firesAlike u s :=
  ⟨h.settings.symm, h.clock.symm, h.now.symm, h.line.symm, h.fired.symm.bell, fun k hk => (h.counters k hk).symm⟩

/-- R122, R124: the entries that fire do so one after another, in the order in which they are taken. -/
theorem firedInTurn_takeEntries (c : Stamp) (fires : Nat → Bool) (l : List Nat) (s : State) :
    firedInTurn c (l.filter fires) s (takeEntries c fires l s) := by
  induction l generalizing s with
  | nil => exact ⟨rfl, rfl, fun _ _ => rfl⟩
  | cons i rest ih =>
    have hrest := ih (takeEntry c fires s i)
    by_cases hi : fires i = true
    · rw [List.filter_cons_of_pos hi]
      have htake : takeEntry c fires s i = fireEntry c i true s := if_pos hi
      refine ⟨takeEntry c fires s i, ?_, ?_, hrest⟩
      · obtain ⟨b, x, n, k, h⟩ := takeEntry_changes c fires s i
        rw [h]
      · rw [htake]
        exact firedOwn_fireEntry c i s
    · rw [List.filter_cons_of_neg hi]
      have htake : takeEntry c fires s i = missEntry i s := if_neg hi
      rw [htake] at hrest
      refine firedInTurn_congr (missEntry_alike i s).symm (firedAlike.refl _) ?_
      rw [show takeEntries c fires (i :: rest) s = takeEntries c fires rest (missEntry i s) by rw [← htake]; rfl]
      exact hrest

/-- R124, R126: where no entry fires, the line and all of the bell but its marks stand. -/
theorem takeEntries_quiet (c : Stamp) (fires : Nat → Bool) (l : List Nat) (s : State) (h : ∀ i ∈ l, fires i = false) :
    firedAlike s (takeEntries c fires l s) ∧ ∀ k, k ≠ .entryMissed → (takeEntries c fires l s).counter k = s.counter k := by
  induction l generalizing s with
  | nil => exact ⟨firedAlike.refl s, fun _ _ => rfl⟩
  | cons i rest ih =>
    have htake : takeEntry c fires s i = missEntry i s := if_neg (by simp [h i List.mem_cons_self])
    obtain ⟨halike, hcounter⟩ := ih (missEntry i s) fun j hj => h j (List.mem_cons_of_mem _ hj)
    rw [show takeEntries c fires (i :: rest) s = takeEntries c fires rest (missEntry i s) by rw [← htake]; rfl]
    exact ⟨(missEntry_alike i s).fired.trans halike,
      fun k hk => (hcounter k hk).trans ((counter_bump _ _ _).trans (if_neg (Ne.symm hk)))⟩

/-! ### What an entry leaves of the rush window and of a sounder that rings -/

theorem fireEntry_rush_of_zero (c : Stamp) (i : Nat) (own : Bool) (s : State) (h : (s.settings.bell i).rush = 0) :
    (fireEntry c i own s).bell.rush = s.bell.rush :=
  ((bellFollows_fireEntry c i own s) _ _ rfl rfl).2.2.2.2.2.2.1 (.inl h)

theorem takeEntry_rush_of_zero (c : Stamp) (fires : Nat → Bool) (s : State) (i : Nat) (h : (s.settings.bell i).rush = 0) :
    (takeEntry c fires s i).bell.rush = s.bell.rush := by
  unfold takeEntry
  split
  · exact fireEntry_rush_of_zero c i true s h
  · rfl

theorem takeEntry_settings (c : Stamp) (fires : Nat → Bool) (s : State) (i : Nat) :
    (takeEntry c fires s i).settings = s.settings := by
  obtain ⟨b, x, n, k, h⟩ := takeEntry_changes c fires s i
  rw [h]

theorem takeEntries_rush_of_zero (c : Stamp) (fires : Nat → Bool) (l : List Nat) (s : State)
    (h : ∀ i ∈ l, (s.settings.bell i).rush = 0) : (takeEntries c fires l s).bell.rush = s.bell.rush := by
  induction l generalizing s with
  | nil => rfl
  | cons i rest ih =>
    refine (ih (takeEntry c fires s i) fun j hj => ?_).trans (takeEntry_rush_of_zero c fires s i (h i List.mem_cons_self))
    rw [takeEntry_settings]
    exact h j (List.mem_cons_of_mem _ hj)

/-- R129: a sounder that is not QUIET goes on. -/
def soundsOn (s t : State) : Prop :=
  s.bell.sounder ≠ .quiet → t.bell.sounder = s.bell.sounder ∧ t.bell.timer = s.bell.timer

theorem soundsOn.trans {s t u : State} (h : soundsOn s t) (g : soundsOn t u) : soundsOn s u := by
  intro hs
  obtain ⟨hsounder, htimer⟩ := h hs
  obtain ⟨hsounder', htimer'⟩ := g (by rw [hsounder]; exact hs)
  exact ⟨hsounder'.trans hsounder, htimer'.trans htimer⟩

theorem soundsOn_fireEntry (c : Stamp) (i : Nat) (own : Bool) (s : State) : soundsOn s (fireEntry c i own s) := by
  intro hs
  have hbell := fireEntry_bell c i own s
  obtain ⟨-, -, -, hkept⟩ := fireRing_keeps i (setMark i s)
  obtain ⟨hsounder, htimer⟩ := hkept hs
  rw [hbell]
  exact ⟨hsounder, htimer⟩

theorem soundsOn_takeEntries (c : Stamp) (fires : Nat → Bool) (l : List Nat) (s : State) : soundsOn s (takeEntries c fires l s) := by
  induction l generalizing s with
  | nil => exact fun _ => ⟨rfl, rfl⟩
  | cons i rest ih =>
    refine soundsOn.trans ?_ (ih (takeEntry c fires s i))
    unfold takeEntry
    split
    · exact soundsOn_fireEntry c i true s
    · exact fun _ => ⟨rfl, rfl⟩

end Sys2Proof.Machine

/-! PROOFS. An ADVANCE announcement handed on. -/

namespace Sys2Proof.Machine

/-! ### The announcements that wait are seen by nothing that is handed one -/

/-- The station with other announcements waiting. -/
def withAnnouncements (x : List Advance) (s : State) : State := { s with announcements := x }

theorem ite_withAnnouncements {p : Prop} [Decidable p] {x : List Advance} {a b a' b' : State} (ha : a' = withAnnouncements x a)
    (hb : b' = withAnnouncements x b) : (if p then a' else b') = withAnnouncements x (if p then a else b) := by
  subst ha hb
  exact (apply_ite (withAnnouncements x) p a b).symm

theorem startRings_withAnnouncements (x : List Advance) (s : State) :
    startRings (withAnnouncements x s) = withAnnouncements x (startRings s) := by
  unfold startRings
  by_cases hsounder : s.bell.sounder = .quiet
  · rw [if_pos hsounder, if_pos (show (withAnnouncements x s).bell.sounder = .quiet from hsounder)]
    change (match s.bell.queue with | [] => _ | r :: rest => _) = _
    cases s.bell.queue with
    | nil => rfl
    | cons r rest =>
      exact ite_withAnnouncements (p := s.bell.state = .ready) rfl rfl
  · rw [if_neg hsounder, if_neg (show ¬(withAnnouncements x s).bell.sounder = .quiet from hsounder)]

theorem fireRing_withAnnouncements (x : List Advance) (i : Nat) (s : State) :
    fireRing i (withAnnouncements x s) = withAnnouncements x (fireRing i s) := by
  by_cases hready : s.bell.state = .ready
  · by_cases hroom : s.bell.queue.length < 4
    · rw [fireRing_of_room i hready hroom, fireRing_of_room (s := withAnnouncements x s) i hready hroom]
      exact startRings_withAnnouncements x { s with bell := { s.bell with queue := s.bell.queue ++ [entryRing s i] } }
    · rw [fireRing_of_full i hready (by omega), fireRing_of_full (s := withAnnouncements x s) i hready (by exact Nat.not_lt.1 hroom)]
      rfl
  · rw [fireRing_of_faulted i hready, fireRing_of_faulted (s := withAnnouncements x s) i hready]
    rfl

theorem fireNotice_withAnnouncements (x : List Advance) (c : Stamp) (i : Nat) (own : Bool) (s : State) :
    fireNotice c i own (withAnnouncements x s) = withAnnouncements x (fireNotice c i own s) := by
  cases own
  · rfl
  · exact ite_withAnnouncements (p := 1 ≤ txSpace s) rfl rfl

theorem fireRush_withAnnouncements (x : List Advance) (c : Stamp) (i : Nat) (s : State) :
    fireRush c i (withAnnouncements x s) = withAnnouncements x (fireRush c i s) := by
  have hopen (stop : Nat) : openRush stop (withAnnouncements x s) = withAnnouncements x (openRush stop s) :=
    ite_withAnnouncements (p := 0 ≤ absDiff s.clock.abs stop) rfl rfl
  exact ite_withAnnouncements (p := 0 < (s.settings.bell i).rush) (hopen _) rfl

theorem fireEntry_withAnnouncements (x : List Advance) (c : Stamp) (i : Nat) (own : Bool) (s : State) :
    fireEntry c i own (withAnnouncements x s) = withAnnouncements x (fireEntry c i own s) := by
  unfold fireEntry
  rw [show setMark i (withAnnouncements x s) = withAnnouncements x (setMark i s) from rfl, fireRing_withAnnouncements,
    fireNotice_withAnnouncements, fireRush_withAnnouncements]

theorem dueEntry_withAnnouncements (x : List Advance) (c : Stamp) (s : State) (i : Nat) :
    dueEntry c (withAnnouncements x s) i = withAnnouncements x (dueEntry c s i) := by
  exact ite_withAnnouncements (p := running s = true) (fireEntry_withAnnouncements x c i true s) rfl

theorem fireDue_withAnnouncements (x : List Advance) (c : Stamp) (s : State) :
    fireDue c (withAnnouncements x s) = withAnnouncements x (fireDue c s) := by
  have hfold (l : List Nat) (u : State) :
      l.foldl (dueEntry c) (withAnnouncements x u) = withAnnouncements x (l.foldl (dueEntry c) u) := by
    induction l generalizing u with
    | nil => rfl
    | cons i rest ih => rw [List.foldl_cons, dueEntry_withAnnouncements, ih, List.foldl_cons]
  exact hfold _ s

theorem takeAdvance_withAnnouncements (x : List Advance) (a : Advance) (s : State) :
    takeAdvance a (withAnnouncements x s) = withAnnouncements x (takeAdvance a s) := by
  have hweek : (if a.weekChanged then rosterWeekChange a.week (withAnnouncements x s) else withAnnouncements x s) =
      withAnnouncements x (if a.weekChanged then rosterWeekChange a.week s else s) :=
    ite_withAnnouncements (p := a.weekChanged = true) rfl rfl
  have hday (u : State) : newDay a.dayChanged (withAnnouncements x u) = withAnnouncements x (newDay a.dayChanged u) :=
    ite_withAnnouncements (p := a.dayChanged = true) rfl rfl
  have hrush (u : State) : rushAtAnnouncement a.stamp.abs false (withAnnouncements x u) =
      withAnnouncements x (rushAtAnnouncement a.stamp.abs false u) := by
    unfold rushAtAnnouncement
    change (match u.bell.rush with | none => _ | some stop => _) = _
    cases u.bell.rush with
    | none => rfl
    | some stop => exact ite_withAnnouncements rfl rfl
  have hshow (u : State) : showClock a.minute (withAnnouncements x u) = withAnnouncements x (showClock a.minute u) :=
    ite_withAnnouncements (p := panelRuns u = true) rfl rfl
  unfold takeAdvance bellAdvance
  rw [hweek, hday, hrush, fireDue_withAnnouncements, hshow]

/-- R9: to hand on all that fell due is to hand on the oldest first. -/
theorem handAnnouncements_cons {s : State} {a : Advance} {rest : List Advance} (h : s.announcements = a :: rest) :
    handAnnouncements s = handAnnouncements (takeAdvance a { s with announcements := rest }) := by
  have hleft : handAnnouncements s = rest.foldl (fun t a => takeAdvance a t) (takeAdvance a (withAnnouncements [] s)) := by
    unfold handAnnouncements
    rw [h]
    rfl
  have hrest : (takeAdvance a { s with announcements := rest }).announcements = rest := by
    obtain ⟨r, b, x, n, p, k, h⟩ := takeAdvance_changes a { s with announcements := rest }
    rw [h]
  have hcommute := takeAdvance_withAnnouncements [] a { s with announcements := rest }
  rw [hleft, handAnnouncements, hrest]
  change takeAdvance a (withAnnouncements [] s) = withAnnouncements [] (takeAdvance a { s with announcements := rest }) at hcommute
  rw [hcommute]
  rfl

/-! ### What an announcement does before the entries due -/

theorem rushAtAnnouncement_eq (new : Nat) (bySetClock : Bool) (s : State) : rushAtAnnouncement new bySetClock s =
    { s with bell := { s.bell with rush := if bySetClock then none else rushAfter s.bell.rush new } } := by
  unfold rushAtAnnouncement rushAfter
  cases hrush : s.bell.rush with
  | none =>
    simp only [ite_self]
    rw [← hrush]
  | some stop =>
    cases bySetClock with
    | true => rfl
    | false =>
      by_cases h : 0 ≤ absDiff new stop
      · simp [h, closeRush]
      · simp only [h, Bool.false_or, decide_false, Bool.false_eq_true, if_false]
        rw [← hrush]

theorem newDay_eq (d : Bool) (s : State) : newDay d s = { s with bell := { s.bell with marks := (newDay d s).bell.marks } } := by
  obtain ⟨m, h⟩ := newDay_changes d s
  rw [h]

theorem weekMoved_rosterWeekChange (week : Nat) (s : State) : weekMoved s (rosterWeekChange week s) week := by
  refine ⟨?_, ?_⟩
  · exact List.map_congr_left fun x _ => rfl
  · refine (counter_addCount _ _ _ _).trans ((if_pos rfl).trans ?_)
    rw [List.countP_eq_length_filter]
    have hcounts : changeCounts week = fun x : Record =>
        decide (x.current.tag ≠ week) && decide (0 < x.previous.intervals) && !x.previous.collected := by
      funext x
      simp only [changeCounts, discardCounts, Bool.and_assoc]
    rw [hcounts]
    rfl

theorem weekMoved_congr {s s' t t' : State} {week : Nat} (hroster : s'.roster = s.roster)
    (hcounter : s'.counter .uncollectedOverwritten = s.counter .uncollectedOverwritten) (hroster' : t'.roster = t.roster)
    (hcounter' : t'.counter .uncollectedOverwritten = t.counter .uncollectedOverwritten) (h : weekMoved s t week) :
    weekMoved s' t' week := by
  unfold weekMoved at h ⊢
  rw [hroster, hcounter, hroster', hcounter']
  exact h

/-- R111: the roster and its counter at an announcement, by whether the week changes. -/
def weekTaken (changes : Bool) (week : Nat) (s : State) : State := if changes then rosterWeekChange week s else s

theorem weekTaken_changes (changes : Bool) (week : Nat) (s : State) :
    ∃ r k, weekTaken changes week s = { s with roster := r, counters := k } := by
  cases changes <;> exact ⟨_, _, rfl⟩

theorem weekTaken_counter (changes : Bool) (week : Nat) (s : State) (k : Counter) (h : k ≠ .uncollectedOverwritten) :
    (weekTaken changes week s).counter k = s.counter k := by
  cases changes
  · rfl
  · exact (counter_addCount _ _ _ _).trans (if_neg (Ne.symm h))

/-- R111, R121, R137: the station as an announcement leaves it before an entry is taken. -/
def announced (weekChanged : Bool) (week : Nat) (dayChanged : Bool) (rush : Option Nat) (s : State) : State :=
  { weekTaken weekChanged week s with bell := { s.bell with marks := (newDay dayChanged s).bell.marks, rush := rush } }

theorem announced_changes (weekChanged : Bool) (week : Nat) (dayChanged : Bool) (rush : Option Nat) (s : State) :
    ∃ r k, announced weekChanged week dayChanged rush s =
      { s with roster := r, counters := k, bell := { s.bell with marks := (newDay dayChanged s).bell.marks, rush := rush } } := by
  obtain ⟨r, k, h⟩ := weekTaken_changes weekChanged week s
  exact ⟨r, k, by rw [announced, h]⟩

theorem marked_announced (weekChanged : Bool) (week : Nat) (dayChanged : Bool) (rush : Option Nat) (s : State) {j : Nat}
    (hj : j < 32) : marked (announced weekChanged week dayChanged rush s) j = (!dayChanged && marked s j) :=
  marked_newDay dayChanged s hj

/-- The bell of an announced station is alike for firing to the one given, with the rush window it leaves. -/
theorem firesAlike_announced (weekChanged : Bool) (week : Nat) (dayChanged : Bool) (rush : Option Nat) (s u : State)
    (hsettings : u.settings = s.settings) (hclock : u.clock = s.clock) (hnow : u.now = s.now) (hline : u.line = s.line)
    (hbell : u.bell = { s.bell with rush := rush }) (hcounters : u.counters = s.counters) :
    firesAlike (announced weekChanged week dayChanged rush s) u := by
  have hcounter (k : Counter) (hk : k ≠ .uncollectedOverwritten) :
      (announced weekChanged week dayChanged rush s).counter k = s.counter k := weekTaken_counter weekChanged week s k hk
  obtain ⟨r, k, h⟩ := announced_changes weekChanged week dayChanged rush s
  refine ⟨by rw [h]; exact hsettings, by rw [h]; exact hclock, by rw [h]; exact hnow, by rw [h]; exact hline,
    by rw [h, hbell], fun k hk => ?_⟩
  have hne : k ≠ .uncollectedOverwritten := by
    rintro rfl
    simp at hk
  rw [hcounter k hne, State.counter, hcounters]
  rfl

theorem fold_dueEntry (c : Stamp) (r : Bool) (l : List Nat) (s : State) (hr : running s = r) :
    l.foldl (dueEntry c) s = takeEntries c (fun _ => r) l s := by
  induction l generalizing s with
  | nil => rfl
  | cons i rest ih =>
    have hdue : dueEntry c s i = takeEntry c (fun _ => r) s i := by rw [dueEntry, hr, takeEntry]
    have hstill : running (takeEntry c (fun _ => r) s i) = r := by
      obtain ⟨b, x, n, k, h⟩ := takeEntry_changes c (fun _ => r) s i
      rw [h]
      exact hr
    rw [List.foldl_cons, hdue, ih _ hstill]
    rfl

theorem mem_range_filter {p : Nat → Bool} {i : Nat} : i ∈ (List.range 32).filter p ↔ i < 32 ∧ p i = true := by
  simp

/-- The entries newly due: those of a clock value whose marks are clear once the day's change has cleared them. -/
theorem dueEntries_announced (weekChanged : Bool) (week : Nat) (dayChanged : Bool) (rush : Option Nat) (s : State) (c : Stamp)
    (newly : Nat → Bool) (hnewly : ∀ i, newly i = (dueAt s c i && (dayChanged || !marked s i))) :
    dueEntries (announced weekChanged week dayChanged rush s) c.minute = (List.range 32).filter newly := by
  have hmarked (i : Nat) (hi : i < 32) := marked_announced weekChanged week dayChanged rush s hi
  obtain ⟨r, k, h⟩ := announced_changes weekChanged week dayChanged rush s
  rw [h] at hmarked ⊢
  unfold dueEntries
  by_cases hset : s.clock.isSet = true
  · rw [if_pos hset]
    refine List.filter_congr fun i hi => ?_
    rw [hmarked i (List.mem_range.1 hi), hnewly i, dueAt, hset]
    cases dayChanged <;> simp
  · rw [if_neg hset]
    refine (List.filter_eq_nil_iff.2 fun i _ => ?_).symm
    simp [hnewly i, dueAt, hset]

/-- R7: the announcement as the roster, the bell and the panel take it. -/
theorem takeAdvance_eq (a : Advance) (s : State) (newly : Nat → Bool)
    (hnewly : ∀ i, newly i = (dueAt s a.stamp i && (a.dayChanged || !marked s i))) :
    takeAdvance a s = showClock a.minute (takeEntries a.stamp (fun _ => running s) ((List.range 32).filter newly)
      (announced a.weekChanged a.week a.dayChanged (rushAfter s.bell.rush a.stamp.abs) s)) := by
  have hbase : rushAtAnnouncement a.stamp.abs false (newDay a.dayChanged (weekTaken a.weekChanged a.week s)) =
      announced a.weekChanged a.week a.dayChanged (rushAfter s.bell.rush a.stamp.abs) s := by
    obtain ⟨r, k, h⟩ := weekTaken_changes a.weekChanged a.week s
    rw [rushAtAnnouncement_eq, newDay_eq, announced, h]
    cases a.dayChanged <;> rfl
  have hrunning : running (announced a.weekChanged a.week a.dayChanged (rushAfter s.bell.rush a.stamp.abs) s) = running s := by
    obtain ⟨r, k, h⟩ := announced_changes a.weekChanged a.week a.dayChanged (rushAfter s.bell.rush a.stamp.abs) s
    rw [h]
    rfl
  unfold takeAdvance bellAdvance fireDue
  change showClock a.minute ((dueEntries (rushAtAnnouncement a.stamp.abs false (newDay a.dayChanged
    (weekTaken a.weekChanged a.week s))) a.stamp.minute).foldl (dueEntry a.stamp) _) = _
  rw [show (if a.weekChanged then rosterWeekChange a.week s else s) = weekTaken a.weekChanged a.week s from rfl, hbase,
    dueEntries_announced _ _ _ _ s a.stamp newly hnewly, fold_dueEntry a.stamp (running s) _ _ hrunning]

end Sys2Proof.Machine

/-! PROOFS. What an ADVANCE announcement does, settled. -/

namespace Sys2Proof.Machine

theorem showClock_keeps (minute : Nat) (s : State) : (showClock minute s).bell = s.bell ∧ (showClock minute s).line = s.line ∧
    (showClock minute s).counters = s.counters ∧ (showClock minute s).roster = s.roster := by
  obtain ⟨p, h⟩ := showClock_changes minute s
  rw [h]
  exact ⟨rfl, rfl, rfl, rfl⟩

theorem Panel.setRow2_row2 (p : Panel) (codes : List Byte) : (p.setRow2 codes).row2 = codes := by
  unfold Panel.setRow2
  split
  · assumption
  · exact (Panel.kick_keeps _).2.1

theorem showClock_of_runs {minute : Nat} {s : State} (h : panelRuns s = true) :
    (showClock minute s).panel.row2 = clockRow s.clock.isSet minute := by
  rw [showClock, if_pos h]
  exact Panel.setRow2_row2 ..

theorem showClock_of_stopped {minute : Nat} {s : State} (h : panelRuns s = false) : showClock minute s = s := by
  rw [showClock, if_neg (by simp [h])]

/-- What entries taken on an announced station leave of the clock, the panel and the starts. -/
theorem takeEntries_announced_changes (c : Stamp) (fires : Nat → Bool) (l : List Nat) (weekChanged : Bool) (week : Nat)
    (dayChanged : Bool) (rush : Option Nat) (s : State) :
    ∃ r b x n k, takeEntries c fires l (announced weekChanged week dayChanged rush s) =
      { s with roster := r, bell := b, line := { s.line with tx := x, backoff := n }, counters := k } := by
  obtain ⟨r, k, h⟩ := announced_changes weekChanged week dayChanged rush s
  obtain ⟨b, x, n, k', h'⟩ := takeEntries_changes c fires l (announced weekChanged week dayChanged rush s)
  rw [h', h]
  exact ⟨_, _, _, _, _, rfl⟩

theorem announced_counter (weekChanged : Bool) (week : Nat) (dayChanged : Bool) (rush : Option Nat) (s : State) (k : Counter)
    (h : k ≠ .uncollectedOverwritten) : (announced weekChanged week dayChanged rush s).counter k = s.counter k :=
  weekTaken_counter weekChanged week s k h

/-- A list of entries of which one alone is taken. -/
theorem filter_range_eq_singleton {p : Nat → Bool} {i : Nat} (hi : i < 32) (hp : p i = true)
    (hone : ∀ j, j < 32 → j ≠ i → p j = false) : (List.range 32).filter p = [i] := by
  have hcongr : (List.range 32).filter p = (List.range 32).filter (fun j => j == i) := by
    refine List.filter_congr fun j hj => ?_
    by_cases h : j = i
    · simp [h, hp]
    · simp [h, hone j (List.mem_range.1 hj) h]
  rw [hcongr, List.filter_beq, List.count_eq_one_of_mem List.nodup_range (List.mem_range.2 hi)]
  rfl

/-- The entries taken at an announcement: marks, counters, roster, and what fires. -/
theorem takeEntries_announced (c : Stamp) (fires : Nat → Bool) (l : List Nat) (weekChanged : Bool) (week : Nat) (dayChanged : Bool)
    (rush : Option Nat) (s t u : State) (ht : t = takeEntries c fires l (announced weekChanged week dayChanged rush s))
    (hu : firesAlike (announced weekChanged week dayChanged rush s) u) :
    (weekChanged = true → weekMoved s t week) ∧
      (weekChanged = false → t.roster = s.roster ∧ t.counter .uncollectedOverwritten = s.counter .uncollectedOverwritten) ∧
      (∀ j, j < 32 → (marked t j = true ↔ (marked s j = true ∧ dayChanged = false) ∨ j ∈ l)) ∧
      t.counter .entryMissed = (if l.any (fun i => !fires i) then
        min 65535 (s.counter .entryMissed + (l.filter (fun i => !fires i)).length) else s.counter .entryMissed) ∧
      firedInTurn c (l.filter fires) u t ∧
      ((∀ i ∈ l, fires i = false) → t.line = u.line ∧ t.bell = { u.bell with marks := t.bell.marks } ∧
        ∀ k, k ≠ .uncollectedOverwritten → k ≠ .entryMissed → t.counter k = s.counter k) ∧
      (∀ k, k ∉ announcementCounters → t.counter k = s.counter k) := by
  subst ht
  have hcounter (k : Counter) (hk : k ≠ .uncollectedOverwritten) := announced_counter weekChanged week dayChanged rush s k hk
  have hweek (k : Counter) (hm : k ≠ .entryMissed) (hn : k ≠ .ringNoticeSkipped) (hd : k ≠ .ringDropped)
      (hs : k ≠ .bellSkipped) := takeEntries_counter_other c fires l (announced weekChanged week dayChanged rush s) k hm hn hd hs
  have hroster : (takeEntries c fires l (announced weekChanged week dayChanged rush s)).roster =
      (announced weekChanged week dayChanged rush s).roster := by
    obtain ⟨b, x, n, k, h⟩ := takeEntries_changes c fires l (announced weekChanged week dayChanged rush s)
    rw [h]
  have huncollected := hweek .uncollectedOverwritten (by decide) (by decide) (by decide) (by decide)
  refine ⟨fun h => ?_, fun h => ?_, fun j hj => ?_, ?_, ?_, fun hquiet => ?_, fun k hk => ?_⟩
  · subst h
    exact weekMoved_congr (s := s) (t := announced true week dayChanged rush s) rfl rfl hroster huncollected
      (weekMoved_rosterWeekChange week s)
  · subst h
    exact ⟨hroster, huncollected⟩
  · rw [marked_takeEntries c fires l _ hj, marked_announced _ _ _ _ _ hj]
    simp [and_comm]
  · rw [takeEntries_missed, hcounter _ (by decide)]
  · exact firedInTurn_congr hu (firedAlike.refl _) (firedInTurn_takeEntries c fires l _)
  · obtain ⟨halike, hother⟩ := takeEntries_quiet c fires l (announced weekChanged week dayChanged rush s) hquiet
    have hend := hu.fired.symm.trans halike
    exact ⟨hend.line, hend.bell, fun k hk hm => (hother k hm).trans (hcounter k hk)⟩
  · simp only [announcementCounters, List.mem_cons, List.not_mem_nil, or_false, not_or] at hk
    obtain ⟨huncollected, hmissed, hnotice, hdropped, hskipped⟩ := hk
    exact (hweek k hmissed hnotice hdropped hskipped).trans (hcounter k huncollected)

/-- Settles O14: the roster, the marks and the entries of the announced station. -/
theorem advanceIsHandedOn : Obligations.AdvanceIsHandedOn := by
  refine ⟨fun s => handAnnouncements_of_none, ?_⟩
  rintro s a rest c newly hpower hheld hannouncements rfl hnewly
  have hadvance : advance s = takeAdvance a { s with announcements := rest } := by
    unfold advance
    rw [hannouncements]
    dsimp only
    rw [if_pos (by simp [hpower, hheld])]
  refine ⟨_, congrArg Host.Outcome.next hadvance, ?_, handAnnouncements_cons hannouncements, ?_⟩
  · obtain ⟨r, b, x, n, p, k, h⟩ := takeAdvance_changes a { s with announcements := rest }
    rw [h]
  have htake := takeAdvance_eq a { s with announcements := rest } newly hnewly
  obtain ⟨r, b, x, n, p, k, hframe⟩ := takeAdvance_changes a { s with announcements := rest }
  have hpanel (u : State) (hu : ∃ r b x n k, u =
      { ({ s with announcements := rest } : State) with roster := r, bell := b, line := { s.line with tx := x, backoff := n }
                                                        counters := k }) :
      (panelRuns s = true → (showClock a.minute u).panel.row2 = clockRow s.clock.isSet a.minute) ∧
        (panelRuns s = false → (showClock a.minute u).panel = s.panel) := by
    obtain ⟨r, b, x, n, k, rfl⟩ := hu
    exact ⟨fun h => showClock_of_runs (by exact h), fun h => by rw [showClock_of_stopped (by exact h)]⟩
  have hshown := hpanel _ (takeEntries_announced_changes a.stamp (fun _ => running s) ((List.range 32).filter newly)
    a.weekChanged a.week a.dayChanged (rushAfter s.bell.rush a.stamp.abs) { s with announcements := rest })
  have htaken := takeEntries_announced a.stamp (fun _ => running s) ((List.range 32).filter newly) a.weekChanged a.week
    a.dayChanged (rushAfter s.bell.rush a.stamp.abs) { s with announcements := rest } _
    { s with bell := { s.bell with rush := rushAfter s.bell.rush a.stamp.abs } } rfl
    (firesAlike_announced _ _ _ _ _ _ rfl rfl rfl rfl rfl rfl)
  change takeAdvance a { s with announcements := rest } = showClock a.minute (takeEntries a.stamp (fun _ => running s)
    ((List.range 32).filter newly) (announced a.weekChanged a.week a.dayChanged (rushAfter s.bell.rush a.stamp.abs)
      { s with announcements := rest })) at htake
  generalize takeEntries a.stamp (fun _ => running s) ((List.range 32).filter newly) (announced a.weekChanged a.week a.dayChanged
    (rushAfter s.bell.rush a.stamp.abs) { s with announcements := rest }) = u at htake hshown htaken
  obtain ⟨hmoved, hstays, hmarks, hmissed, hturn, hquiet, hcounters⟩ := htaken
  obtain ⟨hbell, hline, hcount, hroster⟩ := showClock_keeps a.minute u
  rw [htake] at hframe ⊢
  have hcounter (k : Counter) : (showClock a.minute u).counter k = u.counter k := by rw [State.counter, hcount]; rfl
  have hend : firedAlike u (showClock a.minute u) := ⟨hline, by rw [hbell], fun k _ => hcounter k⟩
  refine ⟨fun h => ?_, fun h => ?_, fun i hi => ?_, hshown.1, hshown.2, fun h => ?_, fun h => ?_, fun h => ?_,
    fun hrun i hi hnew hone => ?_, fun hrun => ?_, fun k hk => (hcounter k).trans (hcounters k hk), ?_⟩
  · exact weekMoved_congr rfl rfl hroster (hcounter _) (hmoved h)
  · exact ⟨hroster.trans (hstays h).1, (hcounter _).trans (hstays h).2⟩
  · rw [marked_congr (congrArg Bell.marks hbell), hmarks i hi, mem_range_filter, hnewly i]
    simp only [hi, true_and, Bool.and_eq_true, Bool.or_eq_true, Bool.not_eq_true']
    change marked s i = true ∧ a.dayChanged = false ∨ _ ↔ _
    cases marked s i <;> cases a.dayChanged <;> simp
  · have hnone : ∀ i ∈ (List.range 32).filter newly, running s = false := by
      intro i hi
      obtain ⟨hlt, hnew⟩ := mem_range_filter.1 hi
      obtain h | h := h
      · exact h
      · rw [h i hlt] at hnew
        exact nomatch hnew
    obtain ⟨hl, hb, hk⟩ := hquiet hnone
    exact ⟨hline.trans hl, by rw [hbell]; exact hb, fun k hn hm => (hcounter k).trans (hk k hn hm)⟩
  · rw [hcounter, hmissed, h]
    have hall : ((List.range 32).filter newly).any (fun _ => !false) = (List.range 32).any newly := by
      simp [List.any_filter]
    rw [hall]
    simp
    rfl
  · rw [hcounter, hmissed, h]
    simp
    rfl
  · have hone' := filter_range_eq_singleton hi hnew hone
    rw [hone'] at hturn
    simp only [hrun, List.filter_cons, if_true, List.filter_nil] at hturn
    exact firedOwn_congr ⟨rfl, rfl, rfl, rfl, rfl, fun _ _ => rfl⟩ hend (firedOwn_of_firedInTurn hturn)
  · have hall : ((List.range 32).filter newly).filter (fun _ => running s) = (List.range 32).filter newly := by
      rw [hrun]
      simp
    rw [hall] at hturn
    exact firedInTurn_congr ⟨rfl, rfl, rfl, rfl, rfl, fun _ _ => rfl⟩ hend hturn
  · rw [hframe]

end Sys2Proof.Machine

/-! PROOFS. The entries taken at a step of the clock, in rising order of time and index (R8, R124, R125). -/

namespace Sys2Proof.Machine

/-! ### The order of late firing -/

/-- R124: an entry comes before another by its time and, for one time, by its index. -/
def entryBefore (c : Settings) (i j : Nat) : Prop :=
  (c.bell i).minute < (c.bell j).minute ∨ ((c.bell i).minute = (c.bell j).minute ∧ i < j)

theorem mem_insertByMinute {s : State} {i j : Nat} {l : List Nat} : j ∈ insertByMinute s i l ↔ j = i ∨ j ∈ l := by
  induction l with
  | nil => simp [insertByMinute]
  | cons k rest ih =>
    unfold insertByMinute
    split
    · simp
    · simp only [List.mem_cons, ih]
      tauto

theorem pairwise_insertByMinute {s : State} {i : Nat} {l : List Nat} (hl : l.Pairwise (entryBefore s.settings))
    (hi : ∀ j ∈ l, j < i) : (insertByMinute s i l).Pairwise (entryBefore s.settings) := by
  induction l with
  | nil => exact List.pairwise_singleton ..
  | cons k rest ih =>
    obtain ⟨hk, hrest⟩ := List.pairwise_cons.1 hl
    have hki := hi k List.mem_cons_self
    unfold insertByMinute
    split
    · rename_i hlt
      refine List.pairwise_cons.2 ⟨fun j hj => .inl ?_, hl⟩
      obtain rfl | hj := List.mem_cons.1 hj
      · exact hlt
      · obtain h | ⟨h, -⟩ := hk j hj <;> omega
    · rename_i hge
      refine List.pairwise_cons.2 ⟨fun j hj => ?_, ih hrest fun j hj => hi j (List.mem_cons_of_mem _ hj)⟩
      obtain rfl | hj := mem_insertByMinute.1 hj
      · exact (Nat.lt_or_eq_of_le (Nat.not_lt.1 hge)).imp id fun h => ⟨h, hki⟩
      · exact hk j hj

/-- R124: entries inserted in index order stand in the order of late firing. -/
theorem foldl_insertByMinute (s : State) (l acc : List Nat) (hl : l.Pairwise (· < ·))
    (hacc : acc.Pairwise (entryBefore s.settings)) (hbefore : ∀ j ∈ acc, ∀ i ∈ l, j < i) :
    (l.foldl (fun l i => insertByMinute s i l) acc).Pairwise (entryBefore s.settings) ∧
      ∀ j, j ∈ l.foldl (fun l i => insertByMinute s i l) acc ↔ j ∈ l ∨ j ∈ acc := by
  induction l generalizing acc with
  | nil => exact ⟨hacc, fun j => by simp⟩
  | cons i rest ih =>
    obtain ⟨hi, hrest⟩ := List.pairwise_cons.1 hl
    obtain ⟨horder, hmem⟩ := ih (insertByMinute s i acc) hrest
      (pairwise_insertByMinute hacc fun j hj => hbefore j hj i List.mem_cons_self) fun j hj k hk => by
        obtain rfl | hj := mem_insertByMinute.1 hj
        · exact hi k hk
        · exact hbefore j hj k (List.mem_cons_of_mem _ hk)
    refine ⟨horder, fun j => (hmem j).trans ?_⟩
    rw [mem_insertByMinute, List.mem_cons]
    tauto

theorem entryBefore_irrefl (c : Settings) (i : Nat) : ¬entryBefore c i i := by
  rintro (h | ⟨-, h⟩) <;> exact absurd h (Nat.lt_irrefl _)

theorem entryBefore_asymm {c : Settings} {i j : Nat} (h : entryBefore c i j) : ¬entryBefore c j i := by
  rintro (g | ⟨hm, g⟩) <;> obtain h | ⟨hm', h⟩ := h <;> omega

theorem nodup_of_entryBefore {c : Settings} {l : List Nat} (h : l.Pairwise (entryBefore c)) : l.Nodup :=
  List.nodup_iff_pairwise_ne.2 (h.imp fun hij e => by subst e; exact entryBefore_irrefl c _ hij)

/-- Entries in the order of late firing are given by which they are. -/
theorem eq_of_entryBefore {c : Settings} {l m : List Nat} (hl : l.Pairwise (entryBefore c)) (hm : m.Pairwise (entryBefore c))
    (hmem : ∀ i, i ∈ l ↔ i ∈ m) : l = m :=
  ((List.perm_ext_iff_of_nodup (nodup_of_entryBefore hl) (nodup_of_entryBefore hm)).2 hmem).eq_of_pairwise
    (fun _ _ _ _ hij hji => absurd hji (entryBefore_asymm hij)) hl hm

theorem pairwise_range_filter (p : Nat → Bool) : ((List.range 32).filter p).Pairwise (· < ·) :=
  List.pairwise_lt_range.sublist List.filter_sublist

/-! ### Taking by one rule or another -/

theorem takeEntries_congr {c : Stamp} {f g : Nat → Bool} {l : List Nat} (s : State) (h : ∀ i ∈ l, f i = g i) :
    takeEntries c f l s = takeEntries c g l s := by
  induction l generalizing s with
  | nil => rfl
  | cons i rest ih =>
    have hi : takeEntry c f s i = takeEntry c g s i := by rw [takeEntry, takeEntry, h i List.mem_cons_self]
    change takeEntries c f rest (takeEntry c f s i) = takeEntries c g rest (takeEntry c g s i)
    rw [hi]
    exact ih _ fun j hj => h j (List.mem_cons_of_mem _ hj)

/-- R124: the seconds by which an entry's time lies before the clock, and whether it fires late. -/
def firesLate (s : State) (i : Nat) : Bool := decide (clockDiff s.clock.stamp (entryStamp s i) ≤ 120) && running s

theorem fold_passedEntry (l : List Nat) (s : State) : l.foldl passedEntry s = takeEntries s.clock.stamp (firesLate s) l s := by
  have hfold (u : State) (hclock : u.clock = s.clock) (hsettings : u.settings = s.settings) (hstarts : u.starts = s.starts) :
      l.foldl passedEntry u = takeEntries s.clock.stamp (firesLate s) l u := by
    induction l generalizing u with
    | nil => simp only [takeEntries, List.foldl_nil]
    | cons i rest ih =>
      have hstamp : entryStamp u i = entryStamp s i := by
        simp only [entryStamp, entryStampOn, hclock, hsettings]
      have hlate : firesLate u i = firesLate s i := by
        rw [firesLate, firesLate, hstamp, hclock, running_congr hstarts]
      have hpassed : passedEntry u i = takeEntry s.clock.stamp (firesLate s) u i := by
        rw [takeEntry, ← hlate, ← hclock]
        rfl
      have hframe := takeEntry_changes s.clock.stamp (firesLate s) u i
      rw [List.foldl_cons, hpassed]
      refine ih _ ?_ ?_ ?_
      all_goals
        obtain ⟨b, x, n, k, h⟩ := hframe
        rw [h]
        assumption
  exact hfold s rfl rfl rfl

/-! ### The entries of a step -/

/-- The station as a step leaves it before an entry is taken. -/
def steppedBase (new : Stamp) (dayChanged : Bool) (rush : Option Nat) (v : State) : State :=
  announced (decide (v.clock.week ≠ new.week)) new.week dayChanged rush { v with clock := steppedClock new }

theorem steppedBase_changes (new : Stamp) (dayChanged : Bool) (rush : Option Nat) (v : State) :
    ∃ r k m, steppedBase new dayChanged rush v =
      { v with clock := steppedClock new, roster := r, counters := k, bell := { v.bell with marks := m, rush := rush } } := by
  obtain ⟨r, k, h⟩ := announced_changes (decide (v.clock.week ≠ new.week)) new.week dayChanged rush
    { v with clock := steppedClock new }
  exact ⟨r, k, _, by rw [steppedBase, h]⟩

/-- The entries of a step and the seconds by which each lies before the new clock, as `stepped` names them. -/
structure stepEntries (v : State) (new : Stamp) (sameDay : Bool) (back : Nat → Int) (newly : Nat → Bool) : Prop where
  same   : sameDay = decide (new.week = v.clock.week ∧ new.minute / 1440 = v.clock.minute / 1440)
  before : ∀ i, back i = clockDiff new { week := new.week, minute := new.minute / 1440 * 1440 + (v.settings.bell i).minute,
                                         second := 0 }
  due    : ∀ i, newly i =
    ((v.settings.bell i).applies (dayOfWeek new.minute) v.settings.zone && (!sameDay || !marked v i) &&
      (if v.clock.isSet && decide (0 ≤ clockDiff new v.clock.stamp) then
        decide (0 < absDiff (absMinute new.week (new.minute / 1440 * 1440 + (v.settings.bell i).minute)) v.clock.abs) &&
          decide (absDiff (absMinute new.week (new.minute / 1440 * 1440 + (v.settings.bell i).minute)) v.clock.abs ≤
            absDiff (absMinute new.week new.minute) v.clock.abs)
      else decide ((v.settings.bell i).minute = minuteOfDay new.minute)))

theorem otherDay_eq {v : State} {new : Stamp} {sameDay : Bool} {back : Nat → Int} {newly : Nat → Bool}
    (h : stepEntries v new sameDay back newly) : otherDay v.clock.stamp new = !sameDay := by
  rw [h.same]
  simp only [otherDay, Clock.stamp, dayOfWeek, Config.minutesPerDay]
  by_cases hweek : new.week = v.clock.week
  · by_cases hday : new.minute / 1440 = v.clock.minute / 1440 <;> simp [hweek, hday, eq_comm]
  · simp [hweek, Ne.symm hweek]

/-- R124: at a forward step the entries passed are taken in the order of late firing. -/
theorem passedEntries_stepped {v : State} {new : Stamp} {sameDay : Bool} {back : Nat → Int} {newly : Nat → Bool}
    (h : stepEntries v new sameDay back newly) (rush : Option Nat)
    (hforward : v.clock.isSet = true ∧ 0 ≤ clockDiff new v.clock.stamp) :
    (passedEntries (steppedBase new (!sameDay) rush v) v.clock.abs).Pairwise (entryBefore v.settings) ∧
      ∀ i, i ∈ passedEntries (steppedBase new (!sameDay) rush v) v.clock.abs ↔ i < 32 ∧ newly i = true := by
  have hmarked (i : Nat) (hi : i < 32) : marked (steppedBase new (!sameDay) rush v) i = (sameDay && marked v i) := by
    rw [steppedBase, marked_announced _ _ _ _ _ hi, Bool.not_not]
    rfl
  obtain ⟨r, k, m, hbase⟩ := steppedBase_changes new (!sameDay) rush v
  have hsettings : (steppedBase new (!sameDay) rush v).settings = v.settings := by rw [hbase]
  obtain ⟨horder, hmem⟩ := foldl_insertByMinute (steppedBase new (!sameDay) rush v) _ [] (pairwise_range_filter
    fun i => appliesToday (steppedBase new (!sameDay) rush v) i && !marked (steppedBase new (!sameDay) rush v) i &&
      decide (0 < absDiff (entryMinute (steppedBase new (!sameDay) rush v) i) v.clock.abs) &&
      decide (absDiff (entryMinute (steppedBase new (!sameDay) rush v) i) v.clock.abs ≤
        absDiff (steppedBase new (!sameDay) rush v).clock.abs v.clock.abs)) .nil nofun
  rw [hsettings] at horder
  refine ⟨horder, fun i => (hmem i).trans ?_⟩
  rw [mem_range_filter, or_iff_left List.not_mem_nil]
  refine and_congr_right fun hi => ?_
  rw [hmarked i hi, h.due i, if_pos (by simp [hforward]), hbase]
  change ((v.settings.bell i).applies (dayOfWeek new.minute) v.settings.zone && !(sameDay && marked v i) && _ && _) = true ↔ _
  rw [Bool.not_and, Bool.and_assoc]
  exact Iff.rfl

/-- R125: at a backward or first step the entries of the new minute are taken, in index order. -/
theorem dueEntries_stepped {v : State} {new : Stamp} {sameDay : Bool} {back : Nat → Int} {newly : Nat → Bool}
    (h : stepEntries v new sameDay back newly) (rush : Option Nat)
    (hnot : ¬(v.clock.isSet = true ∧ 0 ≤ clockDiff new v.clock.stamp)) :
    dueEntries (steppedBase new (!sameDay) rush v) new.minute = (List.range 32).filter newly ∧
      ((List.range 32).filter newly).Pairwise (entryBefore v.settings) ∧
      ∀ i, newly i = true → (v.settings.bell i).minute = minuteOfDay new.minute := by
  have hnewly (i : Nat) : newly i = ((v.settings.bell i).applies (dayOfWeek new.minute) v.settings.zone &&
      (!sameDay || !marked v i) && decide ((v.settings.bell i).minute = minuteOfDay new.minute)) := by
    rw [h.due i, if_neg (by simpa using hnot)]
  have hminute (i : Nat) (hi : newly i = true) : (v.settings.bell i).minute = minuteOfDay new.minute := by
    rw [hnewly i] at hi
    simp only [Bool.and_eq_true, decide_eq_true_eq] at hi
    exact hi.2
  refine ⟨?_, ?_, hminute⟩
  · refine dueEntries_announced _ _ _ _ _ new newly fun i => ?_
    rw [hnewly i]
    simp only [dueAt, steppedClock, Bool.true_and]
    rw [Bool.and_assoc, Bool.and_comm (_ || _), ← Bool.and_assoc]
    rfl
  · refine (pairwise_range_filter newly).imp_of_mem fun {i j} hi hj hij => .inr ⟨?_, hij⟩
    rw [hminute i (mem_range_filter.1 hi).2, hminute j (mem_range_filter.1 hj).2]

theorem absDiff_self (a : Nat) : absDiff a a = 0 := by
  refine absDiff_unique a a 0 0 (by omega) (by omega) ?_
  omega

/-- R124: an entry of the new minute lies less than a minute back. -/
theorem back_of_same_minute {v : State} {new : Stamp} {sameDay : Bool} {back : Nat → Int} {newly : Nat → Bool}
    (h : stepEntries v new sameDay back newly) (hsecond : new.second < 60) {i : Nat}
    (hi : (v.settings.bell i).minute = minuteOfDay new.minute) : back i ≤ 120 := by
  have hminute : new.minute / 1440 * 1440 + (v.settings.bell i).minute = new.minute := by
    rw [hi]
    simp only [minuteOfDay, Config.minutesPerDay]
    omega
  rw [h.before i, hminute]
  simp only [clockDiff, Stamp.abs, absDiff_self]
  omega

end Sys2Proof.Machine

/-! PROOFS. A step of the clock: Set Clock and an adopted beacon (R8, R14, R15). -/

namespace Sys2Proof.Machine

/-- R137: what a step leaves of the rush window before an entry fires. -/
def rushAtStep (cause : StepCause) (new : Stamp) (v : State) : Option Nat :=
  if cause == .setClock then none else rushAfter v.bell.rush (absMinute new.week new.minute)

/-- The Bell Controller at a step: the entries taken, from the station as the step leaves it. -/
theorem bellStep_eq {v : State} {new : Stamp} {sameDay : Bool} {back : Nat → Int} {newly : Nat → Bool}
    (h : stepEntries v new sameDay back newly) (cause : StepCause) (hrun : running v = true) (hsecond : new.second < 60) :
    ∃ l : List Nat, l.Pairwise (entryBefore v.settings) ∧ (∀ i, i ∈ l ↔ i < 32 ∧ newly i = true) ∧
      bellStep v.clock.abs cause (stepDirection v.clock new) (otherDay v.clock.stamp new)
          (weekTaken (decide (v.clock.week ≠ new.week)) new.week { v with clock := steppedClock new }) =
        takeEntries new (fun i => decide (back i ≤ 120)) l (steppedBase new (!sameDay) (rushAtStep cause new v) v) := by
  have hbase : rushAtAnnouncement (absMinute new.week new.minute) (cause == .setClock) (newDay (!sameDay)
      (weekTaken (decide (v.clock.week ≠ new.week)) new.week { v with clock := steppedClock new })) =
      steppedBase new (!sameDay) (rushAtStep cause new v) v := by
    obtain ⟨r, k, hw⟩ := weekTaken_changes (decide (v.clock.week ≠ new.week)) new.week { v with clock := steppedClock new }
    rw [rushAtAnnouncement_eq, newDay_eq, steppedBase, announced, hw]
    cases sameDay <;> rfl
  have hclock : (weekTaken (decide (v.clock.week ≠ new.week)) new.week { v with clock := steppedClock new }).clock.abs =
      absMinute new.week new.minute := by
    obtain ⟨r, k, hw⟩ := weekTaken_changes (decide (v.clock.week ≠ new.week)) new.week { v with clock := steppedClock new }
    rw [hw]
    rfl
  obtain ⟨r, k, m, hchanges⟩ := steppedBase_changes new (!sameDay) (rushAtStep cause new v) v
  have hrunning : running (steppedBase new (!sameDay) (rushAtStep cause new v) v) = true := by
    rw [hchanges]
    exact hrun
  have hstamp : (steppedBase new (!sameDay) (rushAtStep cause new v) v).clock.stamp = new := by rw [hchanges]; rfl
  unfold bellStep
  rw [otherDay_eq h, hclock, hbase]
  by_cases hforward : v.clock.isSet = true ∧ 0 ≤ clockDiff new v.clock.stamp
  · obtain ⟨horder, hmem⟩ := passedEntries_stepped h (rushAtStep cause new v) hforward
    refine ⟨_, horder, hmem, ?_⟩
    have hdirection : stepDirection v.clock new = .forward := by rw [stepDirection, if_pos hforward.1, if_pos hforward.2]
    have hset : (steppedBase new (!sameDay) (rushAtStep cause new v) v).clock.isSet = true := by rw [hchanges]; rfl
    rw [hdirection]
    dsimp only
    rw [firePassed, if_pos hset, fold_passedEntry, hstamp]
    refine takeEntries_congr _ fun i _ => ?_
    rw [firesLate, hrunning, hstamp, Bool.and_true, h.before i, hchanges]
    rfl
  · obtain ⟨hdue, horder, hminute⟩ := dueEntries_stepped h (rushAtStep cause new v) hforward
    refine ⟨_, horder, fun i => mem_range_filter, ?_⟩
    have hfires : takeEntries new (fun _ => true) ((List.range 32).filter newly)
        (steppedBase new (!sameDay) (rushAtStep cause new v) v) =
        takeEntries new (fun i => decide (back i ≤ 120)) ((List.range 32).filter newly)
          (steppedBase new (!sameDay) (rushAtStep cause new v) v) :=
      takeEntries_congr _ fun i hi =>
        (decide_eq_true (back_of_same_minute h hsecond (hminute i (mem_range_filter.1 hi).2))).symm
    have hfireDue : fireDue (steppedBase new (!sameDay) (rushAtStep cause new v) v).clock.stamp
        (steppedBase new (!sameDay) (rushAtStep cause new v) v) =
        takeEntries new (fun i => decide (back i ≤ 120)) ((List.range 32).filter newly)
          (steppedBase new (!sameDay) (rushAtStep cause new v) v) := by
      rw [hstamp, fireDue, hdue, fold_dueEntry new true _ _ hrunning, hfires]
    by_cases hset : v.clock.isSet = true
    · have hdirection : stepDirection v.clock new = .backward := by
        rw [stepDirection, if_pos hset, if_neg fun hd => hforward ⟨hset, hd⟩]
      rw [hdirection]
      exact hfireDue
    · have hdirection : stepDirection v.clock new = .initial := by rw [stepDirection, if_neg hset]
      rw [hdirection]
      exact hfireDue

theorem stepClock_eq (new : Stamp) (cause : StepCause) (s : State) : stepClock new cause s =
    showClock new.minute (bellStep (handAnnouncements s).clock.abs cause (stepDirection (handAnnouncements s).clock new)
      (otherDay (handAnnouncements s).clock.stamp new)
      (weekTaken (decide ((handAnnouncements s).clock.week ≠ new.week)) new.week
        { handAnnouncements s with clock := steppedClock new })) := by
  unfold stepClock weekTaken
  dsimp only
  by_cases h : (handAnnouncements s).clock.week = new.week <;> simp [h]

theorem length_filter_of_mem {l m : List Nat} (hl : l.Nodup) (hm : m.Nodup) (h : ∀ i, i ∈ l ↔ i ∈ m) : l.length = m.length :=
  ((List.perm_ext_iff_of_nodup hl hm).2 h).length_eq

/-- What the entries of a step do, as `stepped` names it. -/
theorem stepEntries_taken {v t : State} {new : Stamp} {sameDay : Bool} {back : Nat → Int} {newly : Nat → Bool}
    (h : stepEntries v new sameDay back newly) (cause : StepCause) (hrun : running v = true) (hsecond : new.second < 60)
    (ht : t = showClock new.minute (bellStep v.clock.abs cause (stepDirection v.clock new) (otherDay v.clock.stamp new)
      (weekTaken (decide (v.clock.week ≠ new.week)) new.week { v with clock := steppedClock new }))) (u : State)
    (hu : u = { v with clock := t.clock, bell := { v.bell with rush := rushAtStep cause new v } }) :
    (v.clock.week ≠ new.week → weekMoved v t new.week) ∧
      (v.clock.week = new.week →
        t.roster = v.roster ∧ t.counter .uncollectedOverwritten = v.counter .uncollectedOverwritten) ∧
      ((∀ i, i < 32 → (marked t i = true ↔ (marked v i = true ∧ sameDay = true) ∨ newly i = true)) ∧
        t.counter .entryMissed = (if (List.range 32).any (fun i => newly i && decide (120 < back i)) then
          min 65535 (v.counter .entryMissed + ((List.range 32).filter (fun i => newly i && decide (120 < back i))).length)
        else v.counter .entryMissed) ∧
        ((∀ i, i < 32 → newly i = true → 120 < back i) →
          t.line = u.line ∧ t.bell = { u.bell with marks := t.bell.marks } ∧
            ∀ k, k ≠ .uncollectedOverwritten → k ≠ .entryMissed → t.counter k = v.counter k) ∧
        (∀ i, i < 32 → newly i = true → back i ≤ 120 → (∀ j, j < 32 → j ≠ i → newly j = true → 120 < back j) →
          firedOwn u t new i) ∧
        ∀ order : List Nat, order.Pairwise (entryBefore v.settings) →
          (∀ i, i ∈ order ↔ i < 32 ∧ newly i = true ∧ back i ≤ 120) → firedInTurn new order u t) ∧
      ((∀ i, i < 32 → (v.settings.bell i).rush = 0) → t.bell.rush = rushAtStep cause new v) ∧
      (v.bell.sounder ≠ .quiet → t.bell.timer = v.bell.timer) ∧
      (∀ k, k ∉ announcementCounters → t.counter k = v.counter k) ∧
      t.panel.row2 = clockRow true new.minute ∧ t.panel.overlay = v.panel.overlay ∧
      t = { v with clock := steppedClock new, roster := t.roster, bell := t.bell, line := t.line, panel := t.panel
                   counters := t.counters } := by
  obtain ⟨l, horder, hmem, hstep⟩ := bellStep_eq h cause hrun hsecond
  rw [hstep] at ht
  have hkept := (showClock_keeps_row1 new.minute (takeEntries new (fun i => decide (back i ≤ 120)) l
    (steppedBase new (!sameDay) (rushAtStep cause new v) v))).2
  have hrow2 (w : State) (hw : ∃ b x n k, w = { steppedBase new (!sameDay) (rushAtStep cause new v) v with
      bell := b, line := { (steppedBase new (!sameDay) (rushAtStep cause new v) v).line with tx := x, backoff := n }
      counters := k }) : (showClock new.minute w).panel.row2 = clockRow true new.minute ∧ w.panel = v.panel ∧
        ∃ r b l p k, showClock new.minute w =
          { v with clock := steppedClock new, roster := r, bell := b, line := l, panel := p, counters := k } := by
    obtain ⟨r, k, m, hbase⟩ := steppedBase_changes new (!sameDay) (rushAtStep cause new v) v
    obtain ⟨b, x, n, k', rfl⟩ := hw
    rw [hbase]
    refine ⟨showClock_of_runs (panelRuns_of_running _ (by exact hrun)), rfl, ?_⟩
    obtain ⟨p, hp⟩ := showClock_changes new.minute
      { v with clock := steppedClock new, roster := r, bell := b, line := { v.line with tx := x, backoff := n }, counters := k' }
    rw [hp]
    exact ⟨_, _, _, _, _, rfl⟩
  obtain ⟨hrow, hpanel, r, b, ln, p, k, hframe⟩ := hrow2 _ (takeEntries_changes new (fun i => decide (back i ≤ 120)) l
    (steppedBase new (!sameDay) (rushAtStep cause new v) v))
  have hsounds := soundsOn_takeEntries new (fun i => decide (back i ≤ 120)) l
    (steppedBase new (!sameDay) (rushAtStep cause new v) v)
  have hzero := takeEntries_rush_of_zero new (fun i => decide (back i ≤ 120)) l
    (steppedBase new (!sameDay) (rushAtStep cause new v) v)
  have hu' : firesAlike (steppedBase new (!sameDay) (rushAtStep cause new v) v) u := by
    have hclock : u.clock = steppedClock new := by rw [hu, ht, hframe]
    exact firesAlike_announced _ _ _ _ _ _ (by rw [hu]) hclock (by rw [hu]; rfl) (by rw [hu]) (by rw [hu]) (by rw [hu])
  have htaken := takeEntries_announced new (fun i => decide (back i ≤ 120)) l (decide (v.clock.week ≠ new.week)) new.week (!sameDay)
    (rushAtStep cause new v) { v with clock := steppedClock new } (takeEntries new (fun i => decide (back i ≤ 120)) l
      (steppedBase new (!sameDay) (rushAtStep cause new v) v)) u rfl hu'
  have hsettings : (steppedBase new (!sameDay) (rushAtStep cause new v) v).settings = v.settings ∧
      (steppedBase new (!sameDay) (rushAtStep cause new v) v).bell.rush = rushAtStep cause new v ∧
      (steppedBase new (!sameDay) (rushAtStep cause new v) v).bell.sounder = v.bell.sounder ∧
      (steppedBase new (!sameDay) (rushAtStep cause new v) v).bell.timer = v.bell.timer := by
    obtain ⟨r, k, m, hbase⟩ := steppedBase_changes new (!sameDay) (rushAtStep cause new v) v
    rw [hbase]
    exact ⟨rfl, rfl, rfl, rfl⟩
  obtain ⟨hsettings, hrush, hsounder, htimer⟩ := hsettings
  generalize takeEntries new (fun i => decide (back i ≤ 120)) l (steppedBase new (!sameDay) (rushAtStep cause new v) v) = w
    at ht hkept hrow hpanel hframe hsounds hzero htaken
  subst ht
  obtain ⟨hmoved, hstays, hmarks, hmissed, hturn, hquiet, hcounters⟩ := htaken
  obtain ⟨hbell, hline, hcount, hroster⟩ := showClock_keeps new.minute w
  have hcounter (k : Counter) : (showClock new.minute w).counter k = w.counter k := by rw [State.counter, hcount]; rfl
  have hend : firedAlike w (showClock new.minute w) := ⟨hline, by rw [hbell], fun k _ => hcounter k⟩
  have hnodup := nodup_of_entryBefore horder
  have hlate (i : Nat) : i ∈ l.filter (fun i => !decide (back i ≤ 120)) ↔
      i ∈ (List.range 32).filter (fun i => newly i && decide (120 < back i)) := by
    simp [hmem, and_assoc]
  have hcongr {order : List Nat} (ho : l.filter (fun i => decide (back i ≤ 120)) = order) :
      firedInTurn new order u (showClock new.minute w) := by
    rw [ho] at hturn
    exact firedInTurn_congr ⟨rfl, rfl, rfl, rfl, rfl, fun _ _ => rfl⟩ hend hturn
  have hsorted : (l.filter (fun i => decide (back i ≤ 120))).Pairwise (entryBefore v.settings) := horder.sublist List.filter_sublist
  have hfired (order : List Nat) (ho : order.Pairwise (entryBefore v.settings))
      (hin : ∀ i, i ∈ order ↔ i < 32 ∧ newly i = true ∧ back i ≤ 120) : firedInTurn new order u (showClock new.minute w) := by
    refine hcongr (eq_of_entryBefore hsorted ho fun i => ?_)
    simp [hmem, hin, and_assoc]
  refine ⟨fun hne => ?_, fun heq => ?_, ⟨fun i hi => ?_, ?_, fun hmiss => ?_, fun i hi hnew hb hothers => ?_, hfired⟩,
    fun hzeros => ?_, fun hs => ?_, fun k hk => (hcounter k).trans (hcounters k hk), hrow, ?_, ?_⟩
  · exact weekMoved_congr rfl rfl hroster (hcounter _) (hmoved (decide_eq_true hne))
  · obtain ⟨hr, hc⟩ := hstays (decide_eq_false (not_not.2 heq))
    exact ⟨hroster.trans hr, (hcounter _).trans hc⟩
  · rw [marked_congr (congrArg Bell.marks hbell), hmarks i hi, hmem i]
    simp only [hi, true_and, Bool.not_eq_false']
    exact Iff.rfl
  · rw [hcounter, hmissed, length_filter_of_mem (hnodup.filter _) (List.nodup_range.filter _) hlate]
    have hany : (l.any fun i => !decide (back i ≤ 120)) =
        (List.range 32).any fun i => newly i && decide (120 < back i) := by
      rw [Bool.eq_iff_iff]
      simp only [List.any_eq_true, hmem, List.mem_range, Bool.and_eq_true, Bool.not_eq_true', decide_eq_false_iff_not, not_le,
        decide_eq_true_eq, and_assoc]
    rw [hany]
    rfl
  · obtain ⟨hl, hb, hk⟩ := hquiet fun i hi => decide_eq_false (not_le.2 (hmiss i ((hmem i).1 hi).1 ((hmem i).1 hi).2))
    exact ⟨hline.trans hl, by rw [hbell]; exact hb, fun k hn hm => (hcounter k).trans (hk k hn hm)⟩
  · refine firedOwn_of_firedInTurn (hfired [i] (List.pairwise_singleton ..) fun j => ?_)
    rw [List.mem_singleton]
    constructor
    · rintro rfl
      exact ⟨hi, hnew, hb⟩
    · rintro ⟨hj, hnewj, hbj⟩
      by_contra hne
      exact absurd (hothers j hj hne hnewj) (not_lt.2 hbj)
  · rw [hbell, hzero fun i hi => ?_, hrush]
    rw [hsettings]
    exact hzeros i ((hmem i).1 hi).1
  · rw [hbell, (hsounds (by rw [hsounder]; exact hs)).2, htimer]
  · rw [hkept, hpanel]
  · rw [hframe]

/-- R8: the station a step leaves, from the one with no announcement left to hand on. -/
theorem stepped_stepClock (new : Stamp) (cause : StepCause) (s : State) (hrun : running s = true) (hsecond : new.second < 60) :
    stepped (handAnnouncements s) (stepClock new cause s) new (rushAtStep cause new (handAnnouncements s)) := by
  have hrunning : running (handAnnouncements s) = true := by
    obtain ⟨r, b, x, n, p, k, h⟩ := handAnnouncements_changes s
    rw [h]
    exact hrun
  have htaken {sameDay : Bool} {back : Nat → Int} {newly : Nat → Bool} (h : stepEntries (handAnnouncements s) new sameDay back newly)
      (u : State) (hu : u = { handAnnouncements s with
        clock := (stepClock new cause s).clock
        bell := { (handAnnouncements s).bell with rush := rushAtStep cause new (handAnnouncements s) } }) :=
    stepEntries_taken h cause hrunning hsecond (stepClock_eq new cause s) u hu
  obtain ⟨hmoved, hstays, -, hzero, htimer, hcounters, hrow2, hoverlay, hframe⟩ := htaken ⟨rfl, fun _ => rfl, fun _ => rfl⟩ _ rfl
  refine ⟨by rw [hframe]; rfl, hmoved, hstays, fun sameDay back newly u hsame hback hnewly hu => ?_, hzero, hrow2, hoverlay, htimer,
    hcounters, ?_⟩
  · obtain ⟨-, -, h, -⟩ := htaken ⟨hsame, hback, hnewly⟩ u hu
    exact h
  · rw [hframe]

end Sys2Proof.Machine

/-! PROOFS. Set Clock, a heard beacon and a heard RING notice, settled. -/

namespace Sys2Proof.Machine

/-! ### What handing announcements on leaves -/

/-- R7: an announcement leaves a sounder that rings and the counters that are none of its own. -/
theorem takeAdvance_keeps (a : Advance) (s : State) :
    soundsOn s (takeAdvance a s) ∧ ∀ k, k ∉ announcementCounters → (takeAdvance a s).counter k = s.counter k := by
  have hshow := takeAdvance_eq a s _ fun _ => rfl
  have hcounters := (takeEntries_announced a.stamp (fun _ => running s) ((List.range 32).filter fun i =>
    dueAt s a.stamp i && (a.dayChanged || !marked s i)) a.weekChanged a.week a.dayChanged (rushAfter s.bell.rush a.stamp.abs) s _
    { s with bell := { s.bell with rush := rushAfter s.bell.rush a.stamp.abs } } rfl
    (firesAlike_announced _ _ _ _ _ _ rfl rfl rfl rfl rfl rfl)).2.2.2.2.2.2
  have hsounds := soundsOn_takeEntries a.stamp (fun _ => running s) ((List.range 32).filter fun i =>
    dueAt s a.stamp i && (a.dayChanged || !marked s i)) (announced a.weekChanged a.week a.dayChanged
      (rushAfter s.bell.rush a.stamp.abs) s)
  rw [hshow]
  generalize takeEntries a.stamp _ _ _ = w at hcounters hsounds
  obtain ⟨hbell, -, hcount, -⟩ := showClock_keeps a.minute w
  refine ⟨fun h => ?_, fun k hk => ?_⟩
  · rw [hbell]
    exact hsounds h
  · rw [State.counter, hcount]
    exact hcounters k hk

theorem handAnnouncements_keeps (s : State) :
    soundsOn s (handAnnouncements s) ∧ ∀ k, k ∉ announcementCounters → (handAnnouncements s).counter k = s.counter k := by
  have hfold (l : List Advance) (t : State) : soundsOn t (l.foldl (fun t a => takeAdvance a t) t) ∧
      ∀ k, k ∉ announcementCounters → (l.foldl (fun t a => takeAdvance a t) t).counter k = t.counter k := by
    induction l generalizing t with
    | nil => exact ⟨fun _ => ⟨rfl, rfl⟩, fun _ _ => rfl⟩
    | cons a rest ih =>
      obtain ⟨hsounds, hcounters⟩ := takeAdvance_keeps a t
      obtain ⟨hsounds', hcounters'⟩ := ih (takeAdvance a t)
      exact ⟨hsounds.trans hsounds', fun k hk => (hcounters' k hk).trans (hcounters k hk)⟩
  exact hfold s.announcements { s with announcements := [] }

/-! ### Set Clock -/

theorem exec_setClock_ready (s : State) (office dest : Nat) (tag : Byte) (new : Stamp) (rest : List RxFrame)
    (hready : requestReady s office dest 0x07#8 tag (putStamp new) rest) (hweek : new.week < 65536) (hminute : new.minute < 10080)
    (hsecond : new.second < 60) : exec .setClock s =
      .next (answered office dest 0x07#8 tag .done [] (stepClock new .setClock (taken s rest))) := by
  have hserve : exec .setClock s = .next (serve setClockKind s) := rfl
  have hparam : getStamp (putStamp new) 0 = new :=
    (congrArg (getStamp · 0) (List.append_nil _).symm).trans
      (getStamp_putStamp new ⟨hweek, Nat.lt_trans hminute (by decide), Nat.lt_trans hsecond (by decide)⟩ [])
  have hrange : setClockKind.inRange (putStamp new) = true := by
    simp only [setClockKind, hparam, Stamp.inRange]
    exact Bool.and_eq_true_iff.2 ⟨decide_eq_true hminute, decide_eq_true hsecond⟩
  rw [hserve, serve_ready setClockKind s office dest 0x07#8 tag (putStamp new) rest hready rfl rfl hrange (.inr rfl)]
  simp only [setClockKind, answer, sendAnswer_answered, hparam, setClockTo]

/-- Settles O15: the step from the station with the announcements handed on. -/
theorem setClockStepsTheClock : Obligations.SetClockStepsTheClock := by
  intro s office dest tag new rest hready hweek hminute hsecond
  refine ⟨_, _, exec_setClock_ready s office dest tag new rest hready hweek hminute hsecond, rfl, rfl, ?_⟩
  have hstepped := stepped_stepClock new .setClock (taken s rest) hready.1 hsecond
  obtain ⟨hsounds, hcounters⟩ := handAnnouncements_keeps (taken s rest)
  obtain ⟨-, hoverlay⟩ := handAnnouncements_keeps_row1 (taken s rest)
  obtain ⟨r, b, x, n, p, k, hhand⟩ := handAnnouncements_changes (taken s rest)
  refine ⟨hstepped, fun h => handAnnouncements_of_none h, by rw [hhand]; rfl, by rw [hhand], ?_⟩
  obtain ⟨hclock, -, -, -, hrush, hrow2, hoverlay', htimer, hcounters', hframe⟩ := hstepped
  have hsettings : (handAnnouncements (taken s rest)).settings = s.settings := by rw [hhand]; rfl
  refine ⟨hclock, ?_, hrow2, ?_, hoverlay'.trans hoverlay, fun h => ?_, fun h => hrush fun i hi => ?_, ?_⟩
  · rw [hframe, hhand]
  · exact (hcounters' _ (by decide)).trans (hcounters _ (by decide))
  · obtain ⟨hsounder, htimer'⟩ := hsounds h
    exact (htimer (by rw [hsounder]; exact h)).trans htimer'
  · rw [hsettings]
    exact h i hi
  · rw [hframe, hhand]
    rfl

/-! ### A heard beacon -/

theorem hearBeacon_of_head {s : State} {f : RxFrame} {rest : List RxFrame} {b : BeaconBody} (hrun : running s = true)
    (hrx : s.line.rx = f :: rest) (hkind : f.kind = .beacon) (hbody : getBeacon f.body = b) :
    hearBeacon s = takeBeacon b f.source (taken s rest) := by
  unfold hearBeacon
  rw [hrx]
  dsimp only
  rw [if_pos (by simp [hrun, hkind]), hbody]
  rfl

theorem beaconChecked_eq_none {b : BeaconBody} {source : Nat} (h : 10080 ≤ b.stamp.minute ∨ 60 ≤ b.stamp.second ∨
    (¬(b.roleCode = 1 ∧ 1 ≤ source ∧ source ≤ 55 ∧ 1 ≤ b.zone ∧ b.zone ≤ 8) ∧
      ¬(b.roleCode = 2 ∧ 56 ≤ source ∧ source ≤ 63 ∧ b.zone = 0))) : beaconChecked b source = none := by
  have hstamp : b.stamp.inRange = true ↔ b.stamp.minute < 10080 ∧ b.stamp.second < 60 := by
    simp only [Stamp.inRange, Bool.and_eq_true, decide_eq_true_eq]
    exact Iff.rfl
  unfold beaconChecked beaconRole
  by_cases hgate : b.roleCode = 1 ∧ 1 ≤ source ∧ source ≤ 55
  · rw [if_pos hgate]
    refine if_neg ?_
    simp only [beaconZoneOk, Bool.and_eq_true, decide_eq_true_eq, hstamp]
    omega
  · rw [if_neg hgate]
    by_cases hoffice : b.roleCode = 2 ∧ 56 ≤ source ∧ source ≤ 63
    · rw [if_pos hoffice]
      refine if_neg ?_
      simp only [beaconZoneOk, Bool.and_eq_true, decide_eq_true_eq, hstamp]
      omega
    · rw [if_neg hoffice]

theorem beaconChecked_eq_some {b : BeaconBody} {source : Nat} {role : Role} (hminute : b.stamp.minute < 10080)
    (hsecond : b.stamp.second < 60)
    (h : (role = .gate ∧ b.roleCode = 1 ∧ 1 ≤ source ∧ source ≤ 55 ∧ 1 ≤ b.zone ∧ b.zone ≤ 8) ∨
      (role = .office ∧ b.roleCode = 2 ∧ 56 ≤ source ∧ source ≤ 63 ∧ b.zone = 0)) : beaconChecked b source = some role := by
  have hstamp : b.stamp.inRange = true := by simp [Stamp.inRange, Config.minutesPerWeek, hminute, hsecond]
  obtain ⟨rfl, hcode, h1, h2, h3, h4⟩ | ⟨rfl, hcode, h1, h2, h3⟩ := h
  · simp [beaconChecked, beaconRole, hcode, h1, h2, beaconZoneOk, h3, h4, hstamp]
  · simp [beaconChecked, beaconRole, hcode, h1, h2, beaconZoneOk, h3, hstamp]

theorem tablePeer_changes (p : Peer) (s : State) : ∃ l k, tablePeer p s =
    { s with peers := { s.peers with entries := l }, counters := k } := by
  unfold tablePeer
  split
  · exact ⟨_, _, rfl⟩
  · exact ⟨_, _, rfl⟩

theorem tablePeer_counter (p : Peer) (s : State) (k : Counter) (h : k ≠ .peerTableFull) :
    (tablePeer p s).counter k = s.counter k := by
  unfold tablePeer
  split
  · rfl
  · exact (counter_bump _ _ _).trans (if_neg (Ne.symm h))

/-- R16: the table holds no entry of a station but the one its beacon gave. -/
theorem tablePeer_entry (p : Peer) (s : State) : ∀ q ∈ (tablePeer p s).peers.entries, q.station = p.station → q = p := by
  by_cases hknown : ∃ q ∈ s.peers.entries, q.station = p.station
  · rw [tablePeer_of_table (tableWith_of_known hknown)]
    intro q hq hstation
    obtain ⟨x, hx, rfl⟩ := List.mem_map.1 hq
    split at hstation
    · rw [if_pos ‹_›]
    · exact absurd hstation ‹_›
  · have hnew : ∀ q ∈ s.peers.entries, q.station ≠ p.station := fun q hq h => hknown ⟨q, hq, h⟩
    have happend (l : List Peer) (hl : ∀ q ∈ l, q ∈ s.peers.entries) : ∀ q ∈ l ++ [p], q.station = p.station → q = p := by
      intro q hq hstation
      obtain hq | hq := List.mem_append.1 hq
      · exact absurd hstation (hnew q (hl q hq))
      · exact List.mem_singleton.1 hq
    have htable := tableWith_of_new hnew
    by_cases hroom : s.peers.entries.length < 32
    · rw [if_pos hroom] at htable
      rw [tablePeer_of_table htable]
      exact happend _ fun q hq => hq
    · rw [if_neg hroom] at htable
      cases holdest : oldestSilent s.peers.entries with
      | none =>
        rw [holdest] at htable
        unfold tablePeer
        rw [htable]
        exact fun q hq hstation => absurd hstation (hnew q hq)
      | some age =>
        rw [holdest] at htable
        rw [tablePeer_of_table htable]
        exact happend _ fun q hq => (dropSilent_sublist age _).subset hq

theorem adopts_eq_true {b : BeaconBody} {ownSet : Bool} {d : Int} (hset : b.flags.clockSet = true) (h : ownSet = false ∨ 2 ≤ d) :
    adopts b ownSet d = true := by
  obtain h | h := h <;> simp [adopts, hset, h]

theorem adopts_eq_false {b : BeaconBody} {ownSet : Bool} {d : Int} (h : b.flags.clockSet = false ∨ (ownSet = true ∧ d ≤ 1)) :
    adopts b ownSet d = false := by
  obtain h | ⟨hown, h⟩ := h
  · simp [adopts, h]
  · simp [adopts, hown]
    intro _
    omega

/-- Settles O16: the checks, the peer table, then the clock comparison, whose adoption is a step. -/
theorem beaconMovesTheClockForward : Obligations.BeaconMovesTheClockForward := by
  intro s f rest b hrun hrx hkind hbody
  have he := hearBeacon_of_head hrun hrx hkind hbody
  refine ⟨fun hbad => ?_, fun role d p hminute hsecond hrole hd hp => ?_⟩
  · refine congrArg Host.Outcome.next (he.trans ?_)
    rw [takeBeacon, beaconChecked_eq_none hbad]
  · have htake : hearBeacon s = compareClock b s.clock.isSet d (tablePeer p (taken s rest)) := by
      rw [he, takeBeacon, beaconChecked_eq_some hminute hsecond hrole, hp, hd]
      rfl
    have hstation : p.station = f.source := by rw [hp]
    have hentry := tablePeer_entry p (taken s rest)
    have hcounter := tablePeer_counter p (taken s rest) .clockAdopted (by decide)
    obtain ⟨l, k, htable⟩ := tablePeer_changes p (taken s rest)
    have hrunning : running (tablePeer p (taken s rest)) = true := by rw [htable]; exact hrun
    refine ⟨_, _, _, congrArg Host.Outcome.next htake, rfl, rfl, fun h => handAnnouncements_of_none (by rw [htable]; exact h), ?_⟩
    by_cases hadopts : b.flags.clockSet = true ∧ (s.clock.isSet = false ∨ 2 ≤ d)
    · have hcompare : compareClock b s.clock.isSet d (tablePeer p (taken s rest)) =
          bump .clockAdopted (stepClock b.stamp .adoption (tablePeer p (taken s rest))) := by
        rw [compareClock, if_pos (adopts_eq_true hadopts.1 hadopts.2)]
      have hstepped := stepped_stepClock b.stamp .adoption (tablePeer p (taken s rest)) hrunning hsecond
      have hadopted : (stepClock b.stamp .adoption (tablePeer p (taken s rest))).counter .clockAdopted =
          s.counter .clockAdopted := by
        obtain ⟨-, -, -, -, -, -, -, -, hcounters, -⟩ := hstepped
        exact ((hcounters _ (by decide)).trans ((handAnnouncements_keeps _).2 _ (by decide))).trans hcounter
      have hclock := hstepped.1
      obtain ⟨r, bl, x, n, pn, k', hstep⟩ := stepClock_changes b.stamp .adoption (tablePeer p (taken s rest))
      rw [hcompare]
      have hpeers : (bump .clockAdopted (stepClock b.stamp .adoption (tablePeer p (taken s rest)))).peers =
          (tablePeer p (taken s rest)).peers := by rw [hstep]; rfl
      refine ⟨hpeers, fun _ _ => ⟨hclock, (counter_bump_self _ _).trans (by rw [hadopted]; rfl), _, rfl, rfl, hstepped⟩,
        fun hnot => ?_, fun q hq hs => hentry q (hpeers ▸ hq) (hs.trans hstation.symm), ?_⟩
      · obtain h | ⟨hset, hle⟩ := hnot
        · rw [h] at hadopts
          exact nomatch hadopts.1
        · obtain h | h := hadopts.2
          · rw [hset] at h
            exact nomatch h
          · omega
      · rw [hstep, htable]
        rfl
    · have hnot : b.flags.clockSet = false ∨ (s.clock.isSet = true ∧ d ≤ 1) := by
        by_cases hset : b.flags.clockSet = true
        · have hrest := fun h => hadopts ⟨hset, h⟩
          have hown : s.clock.isSet = true := (Bool.eq_false_or_eq_true _).resolve_right fun h => hrest (.inl h)
          exact .inr ⟨hown, by by_contra h; exact hrest (.inr (by omega))⟩
        · exact .inl (by simpa using hset)
      have hcompare : compareClock b s.clock.isSet d (tablePeer p (taken s rest)) = tablePeer p (taken s rest) := by
        rw [compareClock, if_neg (by simp [adopts_eq_false hnot])]
      rw [hcompare]
      refine ⟨rfl, fun hset h => absurd ⟨hset, h⟩ hadopts, fun _ => rfl, fun q hq hs => hentry q hq (hs.trans hstation.symm), ?_⟩
      rw [htable]
      rfl

end Sys2Proof.Machine

/-! PROOFS. A heard RING notice: its checks, its conditions in their order, and the entry that is followed (R128). -/

namespace Sys2Proof.Machine

theorem ringPatternOk_iff (b : Byte) :
    ringPatternOk b = true ↔ (b.toNat / 64 = 3 → 1 ≤ b.toNat % 32 ∧ b.toNat % 32 ≤ 30) := by
  unfold ringPatternOk
  by_cases h : b.toNat / 64 = 3
  · rw [if_pos h, Bool.and_eq_true, decide_eq_true_eq, decide_eq_true_eq]
    exact ⟨fun h' _ => h', fun h' => h' h⟩
  · rw [if_neg h]
    exact iff_of_true rfl fun h' => absurd h' h

theorem ringValid_iff (body : List Byte) (source : Nat) : ringValid body source = true ↔
    1 ≤ source ∧ source ≤ 55 ∧ 1 ≤ (getRing body).zone ∧ (getRing body).zone ≤ 8 ∧ (getRing body).index ≤ 31 ∧
      (getRing body).day ≤ 6 ∧ (getRing body).minute ≤ 1439 ∧ ((getByte body 7).toNat / 64 = 3 →
        1 ≤ (getByte body 7).toNat % 32 ∧ (getByte body 7).toNat % 32 ≤ 30) := by
  have hminute : (getRing body).minute < Config.minutesPerDay ↔ (getRing body).minute ≤ 1439 := Nat.lt_succ_iff
  simp only [ringValid, Bool.and_eq_true, decide_eq_true_eq, ringPatternOk_iff, hminute, and_assoc]

theorem hearRing_of_head {s : State} {f : RxFrame} {rest : List RxFrame} (hrun : running s = true) (hrx : s.line.rx = f :: rest)
    (hkind : f.kind = .ring) : hearRing s =
      if ringValid f.body f.source then takeRing (getRing f.body) (taken s rest) else bump .ringInvalid (taken s rest) := by
  unfold hearRing
  rw [hrx]
  exact if_pos (by simp [hrun, hkind])

/-- R121: there are 32 marks. -/
theorem marked_of_le (s : State) {i : Nat} (h : 32 ≤ i) : marked s i = false :=
  List.getD_eq_default _ _ (by simpa using h)

theorem marked_fireEntry_other (c : Stamp) {i j : Nat} (own : Bool) (s : State) (h : j ≠ i) :
    marked (fireEntry c i own s) j = marked s j := by
  rw [marked_congr (fireEntry_marks c i own s)]
  by_cases hj : j < 32
  · rw [marked_setMark s hj, decide_eq_false (Ne.symm h), Bool.or_false]
  · rw [marked_of_le _ (not_lt.1 hj), marked_of_le _ (not_lt.1 hj)]

theorem marked_fireEntry_self (c : Stamp) {i : Nat} (own : Bool) (s : State) (h : i < 32) :
    marked (fireEntry c i own s) i = true := by
  rw [marked_congr (fireEntry_marks c i own s), marked_setMark s h, decide_eq_true rfl, Bool.or_true]

/-- R127: an entry that follows sends no notice. -/
theorem fireNotice_of_following (c : Stamp) (i : Nat) (s : State) : fireNotice c i false s = s := rfl

theorem fireEntry_following_line (c : Stamp) (i : Nat) (s : State) : (fireEntry c i false s).line = s.line := by
  unfold fireEntry
  rw [fireNotice_of_following]
  obtain ⟨b, k, h⟩ := fireRing_changes i (setMark i s)
  obtain ⟨r, h'⟩ := fireRush_changes c i (fireRing i (setMark i s))
  rw [h', h]
  rfl

theorem fireEntry_following_counter (c : Stamp) (i : Nat) (s : State) (k : Counter) (hd : k ≠ .ringDropped)
    (hs : k ≠ .bellSkipped) : (fireEntry c i false s).counter k = s.counter k := by
  unfold fireEntry
  rw [fireNotice_of_following]
  obtain ⟨r, h⟩ := fireRush_changes c i (fireRing i (setMark i s))
  rw [h]
  exact fireRing_counter_other i (setMark i s) k hd hs

theorem not_ignored_of {r : RingNotice} {c : Clock} (hset : c.isSet = true) (hweek : r.week = c.week)
    (hday : r.day = dayOfWeek c.minute) : ¬(c.isSet = false ∨ r.week ≠ c.week ∨ r.day ≠ dayOfWeek c.minute) := by
  simp [hset, hweek, hday]

theorem not_mismatched_of {r : RingNotice} {s : State} (happlies : appliesToday s r.index = true)
    (hminute : r.minute = (s.settings.bell r.index).minute) :
    ¬(appliesToday s r.index = false ∨ r.minute ≠ (s.settings.bell r.index).minute) := by
  simp [happlies, hminute]

/-- R128: an entry that passes every condition is followed. -/
theorem takeRing_of_following {r : RingNotice} {s : State} (hzone : r.zone = s.settings.zone) (hset : s.clock.isSet = true)
    (hweek : r.week = s.clock.week) (hday : r.day = dayOfWeek s.clock.minute) (happlies : appliesToday s r.index = true)
    (hminute : r.minute = (s.settings.bell r.index).minute) (hmark : marked s r.index = false)
    (hlow : -120 ≤ clockDiff s.clock.stamp (entryStamp s r.index)) (hhigh : clockDiff s.clock.stamp (entryStamp s r.index) ≤ 120) :
    takeRing r s = fireEntry s.clock.stamp r.index false s := by
  unfold takeRing
  rw [if_neg (not_not.2 hzone), if_neg (not_ignored_of hset hweek hday), if_neg (not_mismatched_of happlies hminute),
    if_neg (by simp [hmark])]
  exact (if_neg (not_lt.2 hlow)).trans (if_neg (not_lt.2 hhigh))

/-- Settles O45: the conditions of a RING notice in their order, then the entry followed. -/
theorem ringNoticeIsFollowed : Obligations.RingNoticeIsFollowed := by
  rintro s f rest _ _ _ hrun hrx hkind rfl rfl rfl
  have hhear := hearRing_of_head hrun hrx hkind
  refine ⟨ringValid_iff f.body f.source, fun hbad => congrArg Host.Outcome.next (by rw [hhear, hbad]; rfl), fun hvalid => ?_⟩
  rw [if_pos hvalid] at hhear
  have hexec {t : State} (h : takeRing (getRing f.body) (taken s rest) = t) : exec .hearRing s = .next t :=
    congrArg Host.Outcome.next (hhear.trans h)
  have hindex : (getRing f.body).index < 32 := Nat.lt_succ_of_le ((ringValid_iff _ _).1 hvalid).2.2.2.2.1
  generalize getRing f.body = r at hexec hindex ⊢
  refine ⟨fun hzone => hexec (if_pos hzone), fun hzone => ⟨fun hday => hexec ?_, fun hset hweek hday => ⟨fun hother => hexec ?_,
    fun happlies hminute => ⟨fun hmark => hexec ?_, fun hmark hfar => hexec ?_, fun hmark hlow hhigh => ?_⟩⟩⟩⟩
  · exact (if_neg (not_not.2 hzone)).trans (if_pos hday)
  · exact (if_neg (not_not.2 hzone)).trans ((if_neg (not_ignored_of hset hweek hday)).trans (if_pos hother))
  · have hsame := not_ignored_of hset hweek hday
    have hown := not_mismatched_of happlies hminute
    exact (if_neg (not_not.2 hzone)).trans ((if_neg hsame).trans ((if_neg hown).trans (if_pos hmark)))
  · have hsame := not_ignored_of hset hweek hday
    have hown := not_mismatched_of happlies hminute
    refine (if_neg (not_not.2 hzone)).trans ((if_neg hsame).trans ((if_neg hown).trans ((if_neg (ne_true_of_eq_false hmark)).trans ?_)))
    by_cases hearly : clockDiff s.clock.stamp (entryStamp s r.index) < -120
    · exact if_pos hearly
    · exact (if_neg hearly).trans (if_pos (hfar.resolve_left hearly))
  · have hfollows := takeRing_of_following (s := taken s rest) hzone hset hweek hday happlies hminute hmark hlow hhigh
    obtain ⟨b, x, n, k, hfire⟩ := fireEntry_changes (taken s rest).clock.stamp r.index false (taken s rest)
    have hline := fireEntry_following_line (taken s rest).clock.stamp r.index (taken s rest)
    have hself := marked_fireEntry_self (taken s rest).clock.stamp false (taken s rest) hindex
    have hother (i : Nat) (hi : i ≠ r.index) := marked_fireEntry_other (taken s rest).clock.stamp false (taken s rest) hi
    have hbell := bellFollows_fireEntry (taken s rest).clock.stamp r.index false (taken s rest)
    have hcounters := fireEntry_following_counter (taken s rest).clock.stamp r.index (taken s rest)
    generalize fireEntry (taken s rest).clock.stamp r.index false (taken s rest) = t at hfollows hself hother hbell hcounters hfire hline
    refine ⟨t, hexec hfollows, hself, hother, hline, hbell, hcounters, ?_⟩
    rw [hfire] at hline ⊢
    exact congrArg (fun l => { taken s rest with bell := b, line := l, counters := k }) hline

end Sys2Proof.Machine

/-! PROOFS. Crediting a result and the accumulator of a record: what a credit does to the slots and the counters, and what the opening
of an interval and a heard result do to the accumulator (R24, R25, R36, R40, R109, R110). -/

namespace Sys2Proof.Machine

/-! ### Credits -/

theorem slotsCredited_creditSlots (x : Record) (r : PayResult) :
    slotsCredited r x.current x.previous (creditSlots x r).current (creditSlots x r).previous := by
  unfold creditSlots creditPlace
  refine ⟨fun h => ?_, fun hc hp => ?_, fun hc hp => ?_⟩
  · rw [if_pos h]
    exact ⟨rfl, rfl⟩
  · rw [if_neg hc, if_pos hp]
    by_cases hcollected : x.previous.collected = true
    · rw [if_pos hcollected]
      exact ⟨rfl, rfl⟩
    · have hclear : { x.previous.credit r with collected := x.previous.collected } = x.previous.credit r := rfl
      rw [if_neg hcollected]
      exact ⟨rfl, by rw [← eq_false_of_ne_true hcollected, hclear]⟩
  · rw [if_neg hc, if_neg hp]
    exact ⟨rfl, rfl⟩

theorem creditPlace_eq_stale {x : Record} {r : PayResult} :
    creditPlace x r = .stale ↔ x.current.tag ≠ r.key.stamp.week ∧ x.previous.tag ≠ r.key.stamp.week := by
  unfold creditPlace
  split
  · simp [*]
  · split
    · split <;> simp [*]
    · simp [*]

theorem creditPlace_eq_previousCollected {x : Record} {r : PayResult} : creditPlace x r = .previousCollected ↔
    x.current.tag ≠ r.key.stamp.week ∧ x.previous.tag = r.key.stamp.week ∧ x.previous.collected = true := by
  unfold creditPlace
  split
  · simp [*]
  · split
    · split <;> simp [*]
    · simp [*]

theorem countPlace_counter (p : CreditPlace) (s : State) :
    (countPlace p s).counter .resultStale =
        (if p = .stale then min 65535 (s.counter .resultStale + 1) else s.counter .resultStale) ∧
      (countPlace p s).counter .collectedCredited =
        (if p = .previousCollected then min 65535 (s.counter .collectedCredited + 1) else s.counter .collectedCredited) := by
  cases p
  case stale => exact ⟨counter_bump_self .., counter_bump ..⟩
  case previousCollected => exact ⟨counter_bump .., counter_bump_self ..⟩
  all_goals exact ⟨rfl, rfl⟩

theorem countPlace_counter_other (p : CreditPlace) (s : State) (k : Counter) (hs : k ≠ .resultStale) (hc : k ≠ .collectedCredited) :
    (countPlace p s).counter k = s.counter k := by
  cases p
  case stale => exact (counter_bump ..).trans (if_neg (Ne.symm hs))
  case previousCollected => exact (counter_bump ..).trans (if_neg (Ne.symm hc))
  all_goals rfl

theorem creditCounted_countPlace (r : PayResult) (x : Record) (s : State) : creditCounted r x s (countPlace (creditPlace x r) s) := by
  obtain ⟨hstale, hcollected⟩ := countPlace_counter (creditPlace x r) s
  exact ⟨hstale.trans (if_congr creditPlace_eq_stale rfl rfl), hcollected.trans (if_congr creditPlace_eq_previousCollected rfl rfl)⟩

/-- R109, R110: the counting of a credit reads the record's tags and COLLECTED alone. -/
theorem creditCounted_congr {r : PayResult} {x y : Record} {s s' t t' : State} (h : creditCounted r x s t)
    (hc : y.current.tag = x.current.tag) (hp : y.previous = x.previous)
    (hs : s'.counter .resultStale = s.counter .resultStale ∧ s'.counter .collectedCredited = s.counter .collectedCredited)
    (ht : t'.counter .resultStale = t.counter .resultStale ∧ t'.counter .collectedCredited = t.counter .collectedCredited) :
    creditCounted r y s' t' := by
  unfold creditCounted
  rw [hc, hp, hs.1, hs.2, ht.1, ht.2]
  exact h

/-! ### Accumulators -/

/-- R24, step 5. -/
theorem accumulatorOpened_resumed (c : Settings) (stamp : Stamp) (o : Occurrence) (a : Accumulator) :
    (∀ out, a.lastOut = some out → a.breakState = .none → 0 < (c.shift o.code).breakLength →
        ((c.shift o.code).breakLength : Int) * 60 ≤ clockDiff stamp out →
      resumed (c.shift o.code) a stamp = { a with breakState := .taken }) ∧
    ((∀ out, a.lastOut = some out → a.breakState = .none → 0 < (c.shift o.code).breakLength →
        clockDiff stamp out < ((c.shift o.code).breakLength : Int) * 60) → resumed (c.shift o.code) a stamp = a) := by
  unfold resumed
  cases hout : a.lastOut with
  | none => exact ⟨nofun, fun _ => rfl⟩
  | some out =>
    refine ⟨fun o' ho' hnone hpos hlong => ?_, fun h => if_neg fun ⟨hnone, hpos, hlong⟩ => ?_⟩
    · cases ho'
      exact if_pos ⟨hnone, hpos, hlong⟩
    · exact absurd (h out rfl hnone hpos) (not_lt.2 hlong)

theorem accumulatorAtOpen_of_noShift (c : Settings) (acc : Option Accumulator) (stamp : Stamp) {o : Occurrence}
    (h : o.kind = .noShift) : accumulatorAtOpen c acc stamp o = acc := by
  unfold accumulatorAtOpen
  rw [h]

/-- R24, step 3. -/
theorem accumulatorAtOpen_of_other (c : Settings) {acc : Option Accumulator} (stamp : Stamp) {o : Occurrence} {start : Nat}
    (hkind : o.kind ≠ .noShift) (hstart : o.start = some start) (h : ∀ a, acc = some a → a.start ≠ start) :
    accumulatorAtOpen c acc stamp o = some (Accumulator.fresh start o.code) := by
  unfold accumulatorAtOpen
  rw [hstart]
  have hfresh (a : Accumulator) (ha : acc = some a) : (if a.start = start then some (resumed (c.shift o.code) a stamp)
      else some (Accumulator.fresh start o.code)) = some (Accumulator.fresh start o.code) := if_neg (h a ha)
  cases hk : o.kind
  case noShift => exact absurd hk hkind
  all_goals
    cases acc with
    | none => rfl
    | some a => exact hfresh a rfl

/-- R24, steps 4 and 5. -/
theorem accumulatorAtOpen_of_same (c : Settings) {a : Accumulator} (stamp : Stamp) {o : Occurrence} {start : Nat}
    (hkind : o.kind ≠ .noShift) (hstart : o.start = some start) (h : a.start = start) :
    accumulatorAtOpen c (some a) stamp o = some (resumed (c.shift o.code) a stamp) := by
  unfold accumulatorAtOpen
  rw [hstart]
  cases hk : o.kind
  case noShift => exact absurd hk hkind
  all_goals exact if_pos h

theorem accumulatorOpened_accumulatorAtOpen (c : Settings) (acc : Option Accumulator) (stamp : Stamp) (o : Occurrence) :
    accumulatorOpened c stamp o acc (accumulatorAtOpen c acc stamp o) := by
  refine ⟨accumulatorAtOpen_of_noShift c acc stamp, fun start hkind hstart =>
    ⟨accumulatorAtOpen_of_other c stamp hkind hstart, ?_⟩⟩
  rintro a rfl hsame
  rw [accumulatorAtOpen_of_same c stamp hkind hstart hsame]
  obtain ⟨htaken, hkept⟩ := accumulatorOpened_resumed c stamp o a
  exact ⟨fun out hout hnone hpos hlong => congrArg some (htaken out hout hnone hpos hlong), fun h => congrArg some (hkept h)⟩

theorem latestStamp_eq (old : Option Stamp) (stamp : Stamp) : latestStamp old stamp = some (lastOutAfter old stamp) := by
  unfold latestStamp lastOutAfter
  cases old with
  | none => rfl
  | some o => exact (apply_ite some _ _ _).symm

theorem grossPlus_of_nonneg (gross : Nat) {span : Int} (h : 0 ≤ (gross : Int) + span) :
    grossPlus gross span = min 2880 ((gross : Int) + span).toNat := if_neg (not_lt.2 h)

theorem addHeard_of_same {a : Accumulator} {r : PayResult} (stamp : Stamp) (h : r.start = some a.start) :
    ∃ b, addHeard (some a) r stamp = some b ∧ heardAdded r stamp a b := by
  unfold addHeard
  rw [h]
  refine ⟨_, if_pos rfl, ?_, by rw [latestStamp_eq]; rfl⟩
  rintro _ rfl hgross
  exact grossPlus_of_nonneg a.gross hgross

theorem addHeard_of_other {acc : Option Accumulator} {r : PayResult} (stamp : Stamp) (h : ∀ a, acc = some a → r.start ≠ some a.start) :
    addHeard acc r stamp = acc := by
  unfold addHeard
  cases acc with
  | none => rfl
  | some a =>
    cases hstart : r.start with
    | none => rfl
    | some start => exact if_neg fun heq => h a rfl (by rw [hstart, heq])

theorem lastOutTouched_touchLastOut (acc : Option Accumulator) (iv : OpenInterval) (stamp : Stamp) :
    lastOutTouched iv.start stamp acc (touchLastOut acc iv stamp) := by
  refine ⟨fun h => by rw [h]; rfl, ?_⟩
  rintro a rfl
  refine ⟨fun h => (if_pos h).trans (by rw [latestStamp_eq]), fun h => if_neg h⟩

end Sys2Proof.Machine

/-! PROOFS. Heard PUNCH notices: their checks, and what one that passes them does to the record of its badge (R31 to R38, R106). -/

namespace Sys2Proof.Machine

/-! ### The checks -/

theorem absInRange_iff (n : Nat) : absInRange n = true ↔ n ≤ 660602879 :=
  decide_eq_true_iff.trans Nat.lt_succ_iff

theorem badgeInRange_iff (n : Nat) : badgeInRange n = true ↔ 1 ≤ n ∧ n ≤ 16777214 := by
  rw [badgeInRange, Bool.and_eq_true, decide_eq_true_eq, decide_eq_true_eq]

theorem stampInRange_iff (a : Stamp) : a.inRange = true ↔ a.minute ≤ 10079 ∧ a.second ≤ 59 := by
  rw [Stamp.inRange, Bool.and_eq_true, decide_eq_true_eq, decide_eq_true_eq]
  exact and_congr Nat.lt_succ_iff Nat.lt_succ_iff

theorem occurrenceValid_iff (o : Occurrence) : o.valid = true ↔ (o.kind = .noShift ∧ o.code = 0 ∧ o.start = none) ∨
    (o.kind ≠ .noShift ∧ 1 ≤ o.code ∧ o.code ≤ 12 ∧ ∃ start, o.start = some start ∧ start ≤ 660602879) := by
  unfold Occurrence.valid
  cases hkind : o.kind <;> cases hstart : o.start <;> simp [absInRange_iff, and_assoc]

theorem zeroCount_eq (f : ResultFlags) : f.zeroCount = [f.noShift, f.negative, f.overlong, f.nullSpan].count true := by
  have hcount : ∀ a b c d : Bool, flagBit 0 a + flagBit 0 b + flagBit 0 c + flagBit 0 d = [a, b, c, d].count true := by decide
  exact hcount ..

theorem resultValid_iff (r : PayResult) : r.valid = true ↔
    r.key.stamp.minute ≤ 10079 ∧ r.key.stamp.second ≤ 59 ∧ 1 ≤ r.key.station ∧ r.key.station ≤ 55 ∧
      r.regular ≤ 2880 ∧ r.ot1 ≤ 2880 ∧ r.ot2 ≤ 2880 ∧ r.night ≤ 2880 ∧ r.breakMinutes ≤ 120 ∧
      r.credits ≤ 25920 ∧ r.pay ≤ 5400000 ∧
      [r.flags.noShift, r.flags.negative, r.flags.overlong, r.flags.nullSpan].count true ≤ 1 ∧
      (r.start = none ↔ r.flags.noShift = true) ∧ (∀ start, r.start = some start → start ≤ 660602879) ∧
      r.effIn ≤ 660602879 ∧ r.effOut ≤ 660602879 := by
  have hspan (n : Nat) : n ≤ Config.spanMax ↔ n ≤ 2880 := Iff.rfl
  unfold PayResult.valid
  rw [zeroCount_eq]
  cases r.start <;> cases r.flags.noShift <;> simp [stampInRange_iff, absInRange_iff, hspan, and_assoc]

theorem punchValid_iff (n : PunchNotice) (source : Nat) : n.valid source = true ↔
    1 ≤ source ∧ source ≤ 55 ∧ 1 ≤ n.badge ∧ n.badge ≤ 16777214 ∧ n.stamp.minute ≤ 10079 ∧ n.stamp.second ≤ 59 ∧
      (n.direction = .inward → n.occurrence ≠ none ∧ n.result = none) ∧
      (n.direction = .outward → n.occurrence = none ∧ n.superseded = none) ∧
      (∀ o, n.occurrence = some o → o.valid = true) ∧ ∀ r, n.result = some r → r.valid = true := by
  unfold PunchNotice.valid
  cases n.direction <;> cases n.occurrence <;> cases n.result <;> cases n.superseded <;>
    simp [badgeInRange_iff, stampInRange_iff, and_assoc]

theorem hearPunch_of_head {s : State} {f : RxFrame} {rest : List RxFrame} (hrun : running s = true) (hrx : s.line.rx = f :: rest)
    (hkind : f.kind = .punch) : hearPunch s = hearPunchBody f.body f.source (taken s rest) := by
  unfold hearPunch
  rw [hrx]
  exact if_pos (by simp [hrun, hkind])

theorem hearPunchBody_of_read {body : List Byte} {source : Nat} {s : State} {n : PunchNotice} (h : getPunch body = some n) :
    hearPunchBody body source s = if n.valid source then hearNotice n source s else bump .punchInvalid s := by
  unfold hearPunchBody
  rw [h]

/-- Settles O24: the checks field by field, and the two discards. -/
theorem heardPunchIsDiscarded : Obligations.HeardPunchIsDiscarded := by
  intro s f rest hrun hrx hkind
  have hhear := hearPunch_of_head hrun hrx hkind
  refine ⟨fun hbad => congrArg Host.Outcome.next ?_, fun n hread => ?_⟩
  · rw [hhear, hearPunchBody, hbad]
  · rw [hearPunchBody_of_read hread] at hhear
    refine ⟨?_, fun hbad => congrArg Host.Outcome.next ?_, fun hvalid hnone => congrArg Host.Outcome.next ?_⟩
    · simp only [punchValid_iff, occurrenceValid_iff, resultValid_iff]
    · rw [hhear, hbad]
      rfl
    · have hrecord : (taken s rest).record n.badge = none := hnone
      rw [hhear, if_pos hvalid, hearNotice, hrecord]

/-! ### The record after a notice -/

theorem isCurrent_iff (x : Record) (stamp : Stamp) (station : Nat) : isCurrent x { stamp := stamp, station := station } = true ↔
    x.lastPunch = none ∨ ∃ l, x.lastPunch = some l ∧ (0 < clockDiff stamp l.key.stamp ∨
      (clockDiff stamp l.key.stamp = 0 ∧ l.key.station < station)) := by
  unfold isCurrent PunchKey.laterThan
  cases x.lastPunch <;> simp

/-- R32: a current notice abandons an interval that stands open when it is an IN. -/
def abandons (current : Bool) (n : PunchNotice) (x : Record) : Bool := current && n.direction == .inward && x.interval.isSome

/-- R32 to R34: a notice's parts stand by its direction. -/
def PunchNotice.fits (n : PunchNotice) : Prop :=
  (n.direction = .inward → n.occurrence ≠ none ∧ n.result = none) ∧ (n.direction = .outward → n.occurrence = none)

theorem fits_of_valid {n : PunchNotice} {source : Nat} (h : n.valid source = true) : n.fits := by
  obtain ⟨-, -, -, -, -, -, hin, hout, -⟩ := (punchValid_iff n source).1 h
  exact ⟨hin, fun ho => (hout ho).1⟩

theorem outward_of_result {n : PunchNotice} {r : PayResult} (h : n.fits) (hr : n.result = some r) : n.direction = .outward := by
  cases hd : n.direction with
  | inward => exact nomatch hr.symm.trans (h.1 hd).2
  | outward => rfl

theorem heardAbandons_of_fits {n : PunchNotice} (h : n.fits) (x : Record) (key : PunchKey) :
    heardAbandons x n key = abandons (isCurrent x key) n x := by
  unfold heardAbandons abandons
  cases hd : n.direction with
  | inward =>
    obtain ⟨o, ho⟩ := Option.ne_none_iff_exists'.1 (h.1 hd).1
    simp [ho]
  | outward => cases isCurrent x key <;> rfl

/-- R33, R34: what a notice does to presence, open interval, last punch and accumulator. -/
theorem heardPassage_of_fits (c : Settings) {n : PunchNotice} (h : n.fits) (key : PunchKey) (x : Record) :
    ∃ presence interval last acc, heardPassage c n key x = { x with
        presence := presence, interval := interval, lastPunch := last, acc := acc
        current := { x.current with abandonedSeen := x.current.abandonedSeen || abandons (isCurrent x key) n x } } ∧
      (isCurrent x key = true → last = some { key := key, direction := n.direction } ∧
        (∀ o, n.direction = .inward → n.occurrence = some o → presence = .isIn ∧
          interval = some { key := key, code := o.code, kind := o.kind, start := o.start } ∧
          accumulatorOpened c key.stamp o x.acc acc) ∧
        (n.direction = .outward → presence = .isOut ∧ interval = none)) ∧
      (isCurrent x key = false → presence = x.presence ∧ interval = x.interval ∧ last = x.lastPunch) ∧
      (isCurrent x key = false ∨ n.direction = .outward → acc = x.acc) := by
  unfold heardPassage applyCurrent abandons
  cases hcurrent : isCurrent x key with
  | false => exact ⟨_, _, _, _, by rw [Bool.false_and, Bool.false_and, Bool.or_false]; rfl, nofun, fun _ => ⟨rfl, rfl, rfl⟩, fun _ => rfl⟩
  | true =>
    cases hd : n.direction with
    | inward =>
      obtain ⟨o, ho⟩ := Option.ne_none_iff_exists'.1 (h.1 hd).1
      rw [ho]
      refine ⟨_, _, _, _, rfl, fun _ => ⟨rfl, fun o' _ ho' => ?_, nofun⟩, nofun, ?_⟩
      · cases ho'
        exact ⟨rfl, rfl, accumulatorOpened_accumulatorAtOpen c x.acc key.stamp o⟩
      · rintro (h | h) <;> cases h
    | outward =>
      refine ⟨_, _, _, _, ?_, fun _ => ⟨rfl, nofun, fun _ => ⟨rfl, rfl⟩⟩, nofun, fun _ => rfl⟩
      rw [if_pos rfl, show (true && Direction.outward == Direction.inward && x.interval.isSome) = false from rfl, Bool.or_false]

/-- R36, R37: what a result and the flags do to the slots, the accumulator and the credited keys, and to the message. -/
theorem heardResult_credited {n : PunchNotice} {r : PayResult} {x : Record} (hr : n.result = some r) (hnew : r.key ∉ x.credited) :
    heardResult n x = creditHeard r n.stamp x := by
  unfold heardResult
  rw [hr]
  exact if_neg hnew

theorem heardResult_duplicate {n : PunchNotice} {r : PayResult} {x : Record} (hr : n.result = some r) (hold : r.key ∈ x.credited) :
    heardResult n x = x := by
  unfold heardResult
  rw [hr]
  exact if_pos hold

theorem heardResult_none {n : PunchNotice} {x : Record} (hr : n.result = none) : heardResult n x = x := by
  unfold heardResult
  rw [hr]

theorem heardResult_keeps (n : PunchNotice) (x : Record) : (heardResult n x).badge = x.badge ∧
    (heardResult n x).status = x.status ∧ (heardResult n x).shiftCode = x.shiftCode ∧ (heardResult n x).rateClass = x.rateClass ∧
    (heardResult n x).presence = x.presence ∧ (heardResult n x).interval = x.interval ∧
    (heardResult n x).lastPunch = x.lastPunch ∧ (heardResult n x).message = x.message := by
  cases hr : n.result with
  | none => simp only [heardResult_none hr, and_self]
  | some r =>
    by_cases hold : r.key ∈ x.credited
    · simp only [heardResult_duplicate hr hold, and_self]
    · rw [heardResult_credited hr hold, creditHeard, creditSlots_eq]
      exact ⟨rfl, rfl, rfl, rfl, rfl, rfl, rfl, rfl⟩

/-! ### The counters at a notice -/

theorem counter_bumpIf (b : Bool) (c d : Counter) (s : State) :
    (bumpIf b c s).counter d = if b = true ∧ c = d then min 65535 (s.counter c + 1) else s.counter d := by
  cases b
  · exact (if_neg fun h => nomatch h.1).symm
  · exact (counter_bump _ c d).trans (if_congr ⟨fun h => ⟨rfl, h⟩, And.right⟩ rfl rfl)

theorem countHeardResult_counter_other (n : PunchNotice) (x : Record) (s : State) (k : Counter) (hd : k ≠ .resultDuplicate)
    (hs : k ≠ .resultStale) (hc : k ≠ .collectedCredited) : (countHeardResult n x s).counter k = s.counter k := by
  unfold countHeardResult
  split
  · rfl
  · split
    · exact (counter_bump ..).trans (if_neg (Ne.symm hd))
    · exact countPlace_counter_other _ _ _ hs hc

theorem countHeardResult_duplicate {n : PunchNotice} {r : PayResult} {x : Record} (s : State) (hr : n.result = some r)
    (hold : r.key ∈ x.credited) : countHeardResult n x s = bump .resultDuplicate s := by
  unfold countHeardResult
  rw [hr]
  exact if_pos hold

theorem countHeardResult_credited {n : PunchNotice} {r : PayResult} {x : Record} (s : State) (hr : n.result = some r)
    (hnew : r.key ∉ x.credited) : countHeardResult n x s = countPlace (creditPlace x r) s := by
  unfold countHeardResult
  rw [hr]
  exact if_neg hnew

/-- R32, R33: the counters of a notice before its result is counted. -/
def noticeCounted (n : PunchNotice) (key : PunchKey) (x : Record) (s : State) : State :=
  bumpIf (!isCurrent x key) .punchLate (bumpIf (heardAbandons x n key) .intervalAbandoned s)

theorem noticeCounted_late (n : PunchNotice) (key : PunchKey) (x : Record) (s : State) :
    (noticeCounted n key x s).counter .punchLate =
      if isCurrent x key = true then s.counter .punchLate else min 65535 (s.counter .punchLate + 1) := by
  have hkept : (bumpIf (heardAbandons x n key) .intervalAbandoned s).counter .punchLate = s.counter .punchLate :=
    (counter_bumpIf ..).trans (if_neg fun h => nomatch h.2)
  rw [noticeCounted, counter_bumpIf, hkept]
  cases isCurrent x key <;> simp

theorem noticeCounted_abandoned (n : PunchNotice) (key : PunchKey) (x : Record) (s : State) :
    (noticeCounted n key x s).counter .intervalAbandoned =
      if heardAbandons x n key = true then min 65535 (s.counter .intervalAbandoned + 1) else s.counter .intervalAbandoned := by
  rw [noticeCounted, counter_bumpIf, if_neg (fun h => nomatch h.2), counter_bumpIf]
  cases heardAbandons x n key <;> simp

theorem noticeCounted_other (n : PunchNotice) (key : PunchKey) (x : Record) (s : State) (k : Counter) (hl : k ≠ .punchLate)
    (ha : k ≠ .intervalAbandoned) : (noticeCounted n key x s).counter k = s.counter k := by
  rw [noticeCounted, counter_bumpIf, if_neg (fun h => hl h.2.symm), counter_bumpIf, if_neg (fun h => ha h.2.symm)]

theorem hearNotice_of_record {n : PunchNotice} {source : Nat} {s : State} {x : Record} {key : PunchKey}
    (h : s.record n.badge = some x) (hkey : key = { stamp := n.stamp, station := source }) : hearNotice n source s =
      { countHeardResult n (heardPassage s.settings n key x) (noticeCounted n key x s) with
        roster := settleRecord (applyFlags n (heardResult n (heardPassage s.settings n key x))) s.roster } := by
  subst hkey
  unfold hearNotice
  rw [h]
  rfl

theorem noticeCounted_changes (n : PunchNotice) (key : PunchKey) (x : Record) (s : State) :
    ∃ k, noticeCounted n key x s = { s with counters := k } := by
  unfold noticeCounted
  obtain ⟨k, h⟩ := bumpIf_changes (heardAbandons x n key) .intervalAbandoned s
  rw [h]
  exact bumpIf_changes _ _ _

/-- R37: the flags of a notice leave a credit as it is. -/
theorem slotsCredited_flagged {r : PayResult} {w w' p p' : WeekSlot} (b : Bool) (h : slotsCredited r w p w' p') :
    slotsCredited r { w with unpairedSeen := w.unpairedSeen || b } p { w' with unpairedSeen := w'.unpairedSeen || b } p' := by
  obtain ⟨hcurrent, hprevious, hstale⟩ := h
  refine ⟨fun hc => ?_, fun hc hp => ?_, fun hc hp => ?_⟩
  · obtain ⟨rfl, rfl⟩ := hcurrent hc
    exact ⟨rfl, rfl⟩
  · obtain ⟨rfl, rfl⟩ := hprevious hc hp
    exact ⟨rfl, rfl⟩
  · obtain ⟨rfl, rfl⟩ := hstale hc hp
    exact ⟨rfl, rfl⟩

/-- Settles O23: the record through the passage, the result and the flags, and the counters beside it. -/
theorem heardPunchIsApplied : Obligations.HeardPunchIsApplied := by
  intro s f rest n x key current c hrun hrx hkind hread hvalid hrecord hkey hcurrent hc
  have hfits := fits_of_valid hvalid
  obtain rfl : current = isCurrent x key := Bool.eq_iff_iff.2 (hcurrent.trans (by rw [hkey]; exact (isCurrent_iff ..).symm))
  obtain ⟨presence, interval, last, acc, hpassage, hnow, hlate, hacc⟩ := heardPassage_of_fits s.settings hfits key x
  have hexec : exec .hearPunch s = .next { countHeardResult n (heardPassage s.settings n key x) (noticeCounted n key x (taken s rest)) with
      roster := settleRecord (applyFlags n (heardResult n (heardPassage s.settings n key x))) s.roster } := by
    refine congrArg Host.Outcome.next ((hearPunch_of_head hrun hrx hkind).trans ?_)
    rw [hearPunchBody_of_read hread, if_pos hvalid]
    exact hearNotice_of_record hrecord hkey
  have hstamp : key.stamp = n.stamp := by rw [hkey]
  generalize heardPassage s.settings n key x = p at hexec hpassage
  obtain ⟨hbadge, hstatus, hshift, hrate, hpresence, hinterval, hlast, hmessage⟩ := heardResult_keeps n p
  obtain ⟨k, hk⟩ := noticeCounted_changes n key x (taken s rest)
  obtain ⟨k', hk'⟩ := countHeardResult_changes n p (noticeCounted n key x (taken s rest))
  have hlateCount := (countHeardResult_counter_other n p (noticeCounted n key x (taken s rest)) .punchLate (by decide) (by decide)
    (by decide)).trans (noticeCounted_late n key x (taken s rest))
  have habandoned := (countHeardResult_counter_other n p (noticeCounted n key x (taken s rest)) .intervalAbandoned (by decide)
    (by decide) (by decide)).trans (noticeCounted_abandoned n key x (taken s rest))
  rw [heardAbandons_of_fits hfits] at habandoned
  have hbase (k : Counter) (hl : k ≠ .punchLate) (ha : k ≠ .intervalAbandoned) :=
    noticeCounted_other n key x (taken s rest) k hl ha
  have hcurrentSlot : { p.current with
      unpairedSeen := p.current.unpairedSeen || (n.direction == .outward && n.flags.unpaired) } = c := by rw [hpassage, hc]; rfl
  have hprevious : p.previous = x.previous := by rw [hpassage]
  have hcredited : p.credited = x.credited := by rw [hpassage]
  have haccumulator : p.acc = acc := by rw [hpassage]
  refine ⟨_, applyFlags n (heardResult n p), hexec, by rw [hk', hk], settleRecord_settledAs _ s.roster,
    hbadge.trans (by rw [hpassage]), hstatus.trans (by rw [hpassage]), hshift.trans (by rw [hpassage]),
    hrate.trans (by rw [hpassage]), fun hcur => ?_, fun hcur => ?_, habandoned, fun hnone => ?_,
    fun r hr => ⟨fun hold => ?_, fun hnew => ?_⟩, ?_⟩
  · obtain ⟨hlast', hin, hout⟩ := hnow hcur
    refine ⟨hlast.trans (by rw [hpassage]; exact hlast'), hlateCount.trans (if_pos hcur), fun o hd ho => ?_, fun hd => ?_⟩
    · obtain ⟨hpresence', hinterval', hopened⟩ := hin o hd ho
      refine ⟨hpresence.trans (by rw [hpassage]; exact hpresence'), hinterval.trans (by rw [hpassage]; exact hinterval'), ?_⟩
      rw [heardResult_none (hfits.1 hd).2]
      rw [hstamp, ← haccumulator] at hopened
      exact hopened
    · obtain ⟨hpresence', hinterval'⟩ := hout hd
      exact ⟨hpresence.trans (by rw [hpassage]; exact hpresence'), hinterval.trans (by rw [hpassage]; exact hinterval')⟩
  · obtain ⟨hpresence', hinterval', hlast'⟩ := hlate hcur
    exact ⟨hpresence.trans (by rw [hpassage]; exact hpresence'), hinterval.trans (by rw [hpassage]; exact hinterval'),
      hlast.trans (by rw [hpassage]; exact hlast'), hlateCount.trans (if_neg (ne_true_of_eq_false hcur))⟩
  · rw [heardResult_none hnone]
    exact ⟨hcredited, hcurrentSlot, hprevious, fun h => haccumulator.trans (hacc h)⟩
  · have houtward : n.direction = .outward := outward_of_result hfits hr
    have hold' : r.key ∈ p.credited := hcredited ▸ hold
    rw [heardResult_duplicate hr hold', countHeardResult_duplicate _ hr hold']
    refine ⟨hcredited, hcurrentSlot, hprevious, haccumulator.trans (hacc (.inr houtward)), ?_, ?_, ?_⟩
    · exact (counter_bump_self _ _).trans (by rw [hbase _ (by decide) (by decide)]; rfl)
    · exact (counter_bump ..).trans (hbase _ (by decide) (by decide))
    · exact (counter_bump ..).trans (hbase _ (by decide) (by decide))
  · have houtward : n.direction = .outward := outward_of_result hfits hr
    have hnew' : r.key ∉ p.credited := hcredited ▸ hnew
    have hslots := slotsCredited_flagged (n.direction == .outward && n.flags.unpaired) (slotsCredited_creditSlots p r)
    have hcounted := creditCounted_countPlace r p (noticeCounted n key x (taken s rest))
    have hduplicate := countPlace_counter_other (creditPlace p r) (noticeCounted n key x (taken s rest)) .resultDuplicate
      (by decide) (by decide)
    have hx : p.acc = x.acc := haccumulator.trans (hacc (.inr houtward))
    rw [hcurrentSlot, hprevious] at hslots
    rw [heardResult_credited hr hnew', countHeardResult_credited _ hr hnew']
    refine ⟨?_, hduplicate.trans (hbase _ (by decide) (by decide)), hslots, ?_, fun a ha hsame => ?_, fun hother => ?_⟩
    · exact congrArg (insertKey r.key) hcredited
    · exact creditCounted_congr hcounted (by rw [hpassage]) hprevious.symm
        ⟨(hbase _ (by decide) (by decide)).symm, (hbase _ (by decide) (by decide)).symm⟩ ⟨rfl, rfl⟩
    · have hb := addHeard_of_same n.stamp hsame
      rw [← ha, ← hx] at hb
      exact hb
    · exact (addHeard_of_other n.stamp (by rw [hx]; exact hother)).trans hx
  · have hkept : p.message = x.message := by rw [hpassage]
    rw [← hkept, ← hmessage]
    rfl

end Sys2Proof.Machine

/-! PROOFS. The roster's part of an own commit: an IN opens an interval, an OUT closes the open one (R39 to R41, R104, R105). -/

namespace Sys2Proof.Machine

theorem closeInterval_key (c : Settings) (iv : OpenInterval) (acc : Option Accumulator) (out : Stamp) (rate : Nat) :
    (closeInterval c iv acc out rate).1.key = iv.key ∧ (closeInterval c iv acc out rate).1.flags.stale = false := by
  unfold closeInterval
  dsimp only
  split
  · exact ⟨rfl, rfl⟩
  · exact ⟨rfl, rfl⟩
  · exact ⟨rfl, rfl⟩

/-- R39 to R41: the record after an own IN. -/
def ownIn (c : Settings) (x : Record) (key : PunchKey) (o : Occurrence) : Record :=
  finishOwn x key .inward false (openInterval c key o x)

theorem commitRoster_of_none {s : State} {p : PendingPunch} (stamp : Stamp) (h : s.record p.badge = none) :
    commitRoster p stamp s = (bump .orphanCommit s,
      { occurrence := if readerDirection p.reader = .inward then some { code := 0, kind := .noShift, start := none } else none
        superseded := none, result := none, crossed := false, message := none }) := by
  unfold commitRoster
  rw [h]

theorem commitRoster_entry {s : State} {p : PendingPunch} {x : Record} {key : PunchKey} {o : Occurrence} (stamp : Stamp)
    (h : s.record p.badge = some x) (hr : p.reader = .entry) (hkey : key = { stamp := stamp, station := s.settings.station })
    (ho : o = chooseOccurrence s.settings x.shiftCode stamp) : commitRoster p stamp s =
      ({ bumpIf x.interval.isSome .intervalAbandoned s with roster := settleRecord (ownIn s.settings x key o) s.roster },
        { occurrence := some o, superseded := x.interval.map OpenInterval.key, result := none
          crossed := p.presence != some x.presence, message := x.message }) := by
  subst hkey ho
  unfold commitRoster
  rw [h, hr]
  rfl

theorem commitRoster_exit_none {s : State} {p : PendingPunch} {x : Record} {key : PunchKey} (stamp : Stamp)
    (h : s.record p.badge = some x) (hr : p.reader = .exit) (hkey : key = { stamp := stamp, station := s.settings.station })
    (hnone : x.interval = none) : commitRoster p stamp s =
      ({ s with roster := settleRecord (finishOwn x key .outward p.unpaired { x with presence := .isOut }) s.roster },
        { occurrence := none, superseded := none, result := none, crossed := p.presence != some x.presence, message := x.message }) := by
  subst hkey
  unfold commitRoster
  rw [h, hr]
  dsimp only [readerDirection]
  rw [hnone]

theorem commitRoster_exit_some {s : State} {p : PendingPunch} {x : Record} {key : PunchKey} {iv : OpenInterval} (stamp : Stamp)
    (h : s.record p.badge = some x) (hr : p.reader = .exit) (hkey : key = { stamp := stamp, station := s.settings.station })
    (hsome : x.interval = some iv) : commitRoster p stamp s =
      ({ countOwnClose s.settings iv stamp x s with
          roster := settleRecord (finishOwn x key .outward p.unpaired (closeOwn s.settings iv stamp x).1) s.roster },
        { occurrence := none, superseded := none, result := some (closeOwn s.settings iv stamp x).2
          crossed := p.presence != some x.presence, message := x.message }) := by
  subst hkey
  unfold commitRoster
  rw [h, hr]
  dsimp only [readerDirection]
  rw [hsome]

/-- R40: a result whose key is in the list is not credited again. -/
theorem closeOwn_duplicate {c : Settings} {iv : OpenInterval} {stamp : Stamp} {x : Record} {r : PayResult} {acc : Option Accumulator}
    (hclose : closeInterval c iv x.acc stamp (c.rate x.rateClass) = (r, acc)) (hold : iv.key ∈ x.credited) :
    closeOwn c iv stamp x = ({ x with acc := touchLastOut x.acc iv stamp, presence := .isOut, interval := none }, r) := by
  unfold closeOwn
  rw [hclose]
  exact if_pos hold

theorem closeOwn_credited {c : Settings} {iv : OpenInterval} {stamp : Stamp} {x : Record} {r : PayResult} {acc : Option Accumulator}
    (hclose : closeInterval c iv x.acc stamp (c.rate x.rateClass) = (r, acc)) (hnew : iv.key ∉ x.credited) :
    closeOwn c iv stamp x =
      ({ creditSlots x r with credited := insertKey iv.key x.credited, acc := touchLastOut acc iv stamp, presence := .isOut
                              interval := none },
        { r with flags := { r.flags with stale := creditPlace x r == .stale } }) := by
  unfold closeOwn
  rw [hclose]
  exact if_neg hnew

theorem countOwnClose_duplicate (c : Settings) {iv : OpenInterval} (stamp : Stamp) {x : Record} (s : State) (hold : iv.key ∈ x.credited) :
    countOwnClose c iv stamp x s = bump .resultDuplicate s := if_pos hold

theorem countOwnClose_credited {c : Settings} {iv : OpenInterval} {stamp : Stamp} {x : Record} {r : PayResult}
    {acc : Option Accumulator} (s : State) (hclose : closeInterval c iv x.acc stamp (c.rate x.rateClass) = (r, acc))
    (hnew : iv.key ∉ x.credited) : countOwnClose c iv stamp x s = countPlace (creditPlace x r) s := by
  unfold countOwnClose
  rw [hclose]
  exact if_neg hnew

/-- Settles O38: without a record, by an IN, by an OUT without and with an open interval. -/
theorem ownCommitChangesTheRecord : Obligations.OwnCommitChangesTheRecord := by
  refine ⟨fun s p stamp hnone => ?_, fun s p stamp x key hrecord hkey => ?_⟩
  · rw [commitRoster_of_none stamp hnone]
    cases p.reader <;> rfl
  have hcrossed : (p.presence != some x.presence) = decide (p.presence ≠ some x.presence) := by
    cases p.presence with
    | none => rfl
    | some d => cases d <;> cases x.presence <;> rfl
  cases hr : p.reader with
  | entry =>
    have hcommit := commitRoster_entry stamp hrecord hr hkey rfl
    obtain ⟨k, hk⟩ := bumpIf_changes x.interval.isSome .intervalAbandoned s
    refine ⟨_, ownIn s.settings x key (chooseOccurrence s.settings x.shiftCode stamp), _, hcommit, by rw [hk],
      settleRecord_settledAs _ s.roster, rfl, rfl, rfl, rfl, rfl, rfl, hcrossed, rfl, ?_, nofun⟩
    rintro - o rfl
    refine ⟨rfl, rfl, rfl, rfl, rfl, ?_, rfl, rfl, ?_, rfl⟩
    · have hopened := accumulatorOpened_accumulatorAtOpen s.settings x.acc key.stamp (chooseOccurrence s.settings x.shiftCode stamp)
      rw [hkey] at hopened ⊢
      exact hopened
    · have hunpaired : (x.current.unpairedSeen || false) = x.current.unpairedSeen := Bool.or_false _
      exact congrArg (fun b => { x.current with
        abandonedSeen := x.current.abandonedSeen || x.interval.isSome, unpairedSeen := b }) hunpaired
  | exit =>
    cases hinterval : x.interval with
    | none =>
      have hcommit := commitRoster_exit_none stamp hrecord hr hkey hinterval
      refine ⟨_, finishOwn x key .outward p.unpaired { x with presence := .isOut }, _, hcommit, rfl,
        settleRecord_settledAs _ s.roster, rfl, rfl, rfl, rfl, rfl, rfl, hcrossed, rfl, nofun, ?_⟩
      rintro - c rfl
      exact ⟨rfl, hinterval, rfl, rfl, fun _ => ⟨rfl, rfl, rfl, rfl, rfl, rfl⟩, fun iv r acc h => nomatch h⟩
    | some iv =>
      have hcommit := commitRoster_exit_some stamp hrecord hr hkey hinterval
      obtain ⟨hkeyed, hstale⟩ := closeInterval_key s.settings iv x.acc stamp (s.settings.rate x.rateClass)
      cases hclose : closeInterval s.settings iv x.acc stamp (s.settings.rate x.rateClass) with
      | mk r acc =>
        rw [hclose] at hkeyed hstale
        by_cases hold : iv.key ∈ x.credited
        · rw [closeOwn_duplicate hclose hold, countOwnClose_duplicate _ _ _ hold] at hcommit
          refine ⟨_, finishOwn x key .outward p.unpaired { x with acc := touchLastOut x.acc iv stamp, presence := .isOut, interval := none }, _,
            hcommit, rfl, settleRecord_settledAs _ s.roster, rfl, rfl, rfl, rfl, rfl, rfl, hcrossed, rfl, nofun, ?_⟩
          rintro - c rfl
          refine ⟨rfl, rfl, rfl, rfl, nofun, ?_⟩
          intro iv' r' acc' hiv hclose'
          obtain rfl := Option.some.inj hiv
          obtain ⟨rfl, rfl⟩ := Prod.mk.inj (hclose.symm.trans hclose')
          exact ⟨hkeyed, fun _ => ⟨rfl, hstale, rfl, rfl, rfl, lastOutTouched_touchLastOut x.acc iv stamp, rfl⟩, fun h => absurd hold h⟩
        · rw [closeOwn_credited hclose hold, countOwnClose_credited s hclose hold, creditSlots_eq] at hcommit
          obtain ⟨k, hk⟩ := countPlace_changes (creditPlace x r) s
          have hslots := slotsCredited_flagged p.unpaired (slotsCredited_creditSlots x r)
          have hcounted := creditCounted_countPlace r x s
          have hother := countPlace_counter_other (creditPlace x r) s
          generalize countPlace (creditPlace x r) s = t at hcommit hk hcounted hother
          refine ⟨_, finishOwn x key .outward p.unpaired { x with
              current := (creditSlots x r).current, previous := (creditSlots x r).previous, credited := insertKey iv.key x.credited
              acc := touchLastOut acc iv stamp, presence := .isOut, interval := none }, _,
            hcommit, by rw [hk], settleRecord_settledAs _ s.roster, rfl, rfl, rfl, rfl, rfl, rfl, hcrossed, rfl, nofun, ?_⟩
          rintro - c rfl
          refine ⟨rfl, rfl, rfl, rfl, nofun, ?_⟩
          intro iv' r' acc' hiv hclose'
          obtain rfl := Option.some.inj hiv
          obtain ⟨rfl, rfl⟩ := Prod.mk.inj (hclose.symm.trans hclose')
          refine ⟨hkeyed, fun h => absurd h hold, fun _ => ⟨?_, rfl, hslots, hcounted, lastOutTouched_touchLastOut acc iv stamp, hother⟩⟩
          rw [← hkeyed]
          exact congrArg (fun b => some { r with flags := { r.flags with stale := b } })
            (Bool.eq_iff_iff.2 (beq_iff_eq.trans (creditPlace_eq_stale.trans (decide_eq_true_iff).symm)))

end Sys2Proof.Machine

/-! PROOFS. The close of an interval: its conditions, the bands on their scale, the night minutes, and the identities of a result
(R91 to R100). -/

namespace Sys2Proof.Machine

/-! ### Minutes counted one by one -/

theorem length_filter_between (n b low high : Nat) :
    ((List.range n).filter (fun k => decide (low ≤ b + k) && decide (b + k < high))).length = onScale b (b + n) low high := by
  unfold onScale
  induction n with
  | zero => rw [List.range_zero, List.filter_nil, List.length_nil]; omega
  | succ n ih =>
    rw [List.range_succ, List.filter_append, List.length_append, ih, List.filter_singleton]
    by_cases h : low ≤ b + n ∧ b + n < high
    · rw [decide_eq_true h.1, decide_eq_true h.2]
      simp only [Bool.and_self, cond_true, List.length_singleton]
      omega
    · have hout : (decide (low ≤ b + n) && decide (b + n < high)) = false := by
        rw [← Bool.not_eq_true, Bool.and_eq_true, decide_eq_true_eq, decide_eq_true_eq]
        exact h
      rw [hout]
      simp only [cond_false, List.length_nil]
      omega

theorem length_filter_below (n b high : Nat) :
    ((List.range n).filter (fun k => decide (b + k < high))).length = onScale b (b + n) 0 high := by
  rw [← length_filter_between]
  exact congrArg List.length (List.filter_congr fun k _ => by simp)

theorem length_filter_above (n b low : Nat) :
    ((List.range n).filter (fun k => decide (low ≤ b + k))).length = onScale b (b + n) low (b + n) := by
  rw [← length_filter_between]
  exact congrArg List.length (List.filter_congr fun k hk => by simp [List.mem_range.1 hk])

/-- R97: the bands of a stretch are the stretch. -/
theorem onScale_sum {before after low high : Nat} (h : before ≤ after) (hlimits : low ≤ high) :
    onScale before after 0 low + onScale before after low high + onScale before after high after = after - before := by
  unfold onScale
  omega

theorem onScale_le (before after low high : Nat) : onScale before after low high ≤ high - low := by
  unfold onScale
  omega

theorem absAdd_natCast (a k : Nat) : absAdd a k = (a + k) % 660602880 := by
  simp only [absAdd, Config.absModulus]
  omega

theorem inNight_eq (start stop m : Nat) : inNight start stop m =
    ((decide (start < stop) && decide (start ≤ m) && decide (m < stop)) ||
      (decide (stop < start) && (decide (start ≤ m) || decide (m < stop)))) := by
  unfold inNight
  by_cases h : start < stop
  · simp [h, not_lt.2 h.le]
  · by_cases h' : stop < start <;> simp [h, h']

theorem absMinuteOfDay_eq (a : Nat) : absMinuteOfDay a = a % 1440 := by
  simp only [absMinuteOfDay, minuteOfDay, Config.minutesPerWeek, Config.minutesPerDay]
  omega

theorem nightMinutes_eq (start stop effIn n : Nat) : nightMinutes start stop effIn n =
    ((List.range n).filter (fun k => inNight start stop ((effIn + k) % 660602880 % 1440))).length := by
  induction n with
  | zero => rfl
  | succ n ih =>
    rw [nightMinutes, ih, List.range_succ, List.filter_append, List.length_append, List.filter_singleton, absAdd_natCast,
      absMinuteOfDay_eq]
    cases inNight start stop ((effIn + n) % 660602880 % 1440) <;> rfl

theorem nightMinutes_le (start stop effIn n : Nat) : nightMinutes start stop effIn n ≤ n := by
  rw [nightMinutes_eq]
  exact (List.length_filter_le _ _).trans (List.length_range).le

/-! ### The conditions of a close -/

/-- R88: the out-minute, with the model's constants written out. -/
theorem outMinute_eq (stamp : Stamp) : outMinute stamp = stamp.abs % 660602880 := by
  simp only [outMinute, absAdd, Config.absModulus]
  omega

theorem zeroCause_noShift {kind : OccKind} (i o : Stamp) (w : Int) (h : kind = .noShift) : zeroCause kind i o w = some .noShift :=
  if_pos h

theorem zeroCause_negative {kind : OccKind} {i o : Stamp} (w : Int) (h : kind ≠ .noShift) (hn : clockDiff o i < 0) :
    zeroCause kind i o w = some .negative := (if_neg h).trans (if_pos hn)

theorem zeroCause_overlong {kind : OccKind} {i o : Stamp} (w : Int) (h : kind ≠ .noShift) (hn : 0 ≤ clockDiff o i)
    (hlong : 2880 < absDiff (outMinute o) (inMinute i)) : zeroCause kind i o w = some .overlong :=
  (if_neg h).trans ((if_neg (not_lt.2 hn)).trans (if_pos hlong))

theorem zeroCause_nullSpan {kind : OccKind} {i o : Stamp} {w : Int} (h : kind ≠ .noShift) (hn : 0 ≤ clockDiff o i)
    (hlong : absDiff (outMinute o) (inMinute i) ≤ 2880) (hw : w ≤ 0) : zeroCause kind i o w = some .nullSpan :=
  (if_neg h).trans ((if_neg (not_lt.2 hn)).trans ((if_neg (not_lt.2 hlong)).trans (if_pos hw)))

theorem zeroCause_none {kind : OccKind} {i o : Stamp} {w : Int} (h : kind ≠ .noShift) (hn : 0 ≤ clockDiff o i)
    (hlong : absDiff (outMinute o) (inMinute i) ≤ 2880) (hw : 0 < w) : zeroCause kind i o w = none :=
  (if_neg h).trans ((if_neg (not_lt.2 hn)).trans ((if_neg (not_lt.2 hlong)).trans (if_neg (not_le.2 hw))))

theorem of_zeroCause_none {kind : OccKind} {i o : Stamp} {w : Int} (h : zeroCause kind i o w = none) : kind ≠ .noShift ∧ 0 < w := by
  unfold zeroCause at h
  split at h
  · exact nomatch h
  · split at h
    · exact nomatch h
    · split at h
      · exact nomatch h
      · split at h
        · exact nomatch h
        · exact ⟨‹_›, not_le.1 ‹_›⟩

/-- R92, R93: the effective span of an interval at its close. -/
def spanOf (c : Settings) (iv : OpenInterval) (out : Stamp) : Int :=
  absDiff (effectiveOut (c.shift iv.code) iv.kind iv.start (outMinute out))
    (effectiveIn (c.shift iv.code) iv.kind iv.start (inMinute iv.key.stamp))

theorem closeInterval_zero (c : Settings) (iv : OpenInterval) (acc : Option Accumulator) (out : Stamp) (rate : Nat) {cause : ZeroCause}
    (h : zeroCause iv.kind iv.key.stamp out (spanOf c iv out) = some cause) : closeInterval c iv acc out rate =
      (zeroResult iv (effectiveIn (c.shift iv.code) iv.kind iv.start (inMinute iv.key.stamp))
        (effectiveOut (c.shift iv.code) iv.kind iv.start (outMinute out)) cause, acc) := by
  unfold spanOf at h
  unfold closeInterval
  dsimp only
  rw [h]

theorem closeInterval_paid (c : Settings) (iv : OpenInterval) (acc : Option Accumulator) (out : Stamp) (rate : Nat) {start : Nat}
    (h : zeroCause iv.kind iv.key.stamp out (spanOf c iv out) = none) (hstart : iv.start = some start) :
    closeInterval c iv acc out rate =
      ((paidResult c iv acc start (effectiveIn (c.shift iv.code) iv.kind iv.start (inMinute iv.key.stamp))
        (effectiveOut (c.shift iv.code) iv.kind iv.start (outMinute out)) (spanOf c iv out) rate).1,
      some (paidResult c iv acc start (effectiveIn (c.shift iv.code) iv.kind iv.start (inMinute iv.key.stamp))
        (effectiveOut (c.shift iv.code) iv.kind iv.start (outMinute out)) (spanOf c iv out) rate).2) := by
  unfold spanOf at h ⊢
  unfold closeInterval
  dsimp only
  rw [hstart] at h ⊢
  rw [h]

theorem closeInterval_noStart (c : Settings) (iv : OpenInterval) (acc : Option Accumulator) (out : Stamp) (rate : Nat)
    (h : zeroCause iv.kind iv.key.stamp out (spanOf c iv out) = none) (hstart : iv.start = none) : closeInterval c iv acc out rate =
      (zeroResult iv (effectiveIn (c.shift iv.code) iv.kind iv.start (inMinute iv.key.stamp))
        (effectiveOut (c.shift iv.code) iv.kind iv.start (outMinute out)) .noShift, acc) := by
  unfold spanOf at h
  unfold closeInterval
  dsimp only
  rw [hstart] at h ⊢
  rw [h]

/-! ### A close that is paid -/

theorem accumulatorFor_eq {acc : Option Accumulator} {start code : Nat} {a : Accumulator}
    (h : (∃ b, acc = some b ∧ b.start = start ∧ a = b) ∨ ((∀ b, acc = some b → b.start ≠ start) ∧
      a = { start := start, code := code, gross := 0, regular := 0, ot1 := 0, ot2 := 0, breakState := .none, lastOut := none })) :
    accumulatorFor acc start code = a := by
  obtain ⟨b, rfl, hstart, rfl⟩ | ⟨hother, rfl⟩ := h
  · exact if_pos hstart
  · cases acc with
    | none => rfl
    | some b => exact if_neg (hother b rfl)

theorem breakDue_iff (e : ShiftEntry) (a : Accumulator) (gross : Nat) :
    breakDue e a gross = true ↔ a.breakState = .none ∧ 0 < e.breakLength ∧ e.threshold ≤ gross := by
  rw [breakDue, Bool.and_eq_true, Bool.and_eq_true, beq_iff_eq, decide_eq_true_eq, decide_eq_true_eq, and_assoc]

theorem paidAs_paidResult (c : Settings) (iv : OpenInterval) (acc : Option Accumulator) (start effIn effOut : Nat) (w : Int)
    (rate : Nat) : paidAs c iv acc start effIn effOut w (paidResult c iv acc start effIn effOut w rate).1
      (some (paidResult c iv acc start effIn effOut w rate).2) := by
  rintro e span net paid low high a night rfl rfl ha rfl rfl hlow hhigh hnight
  have hacc := accumulatorFor_eq ha
  have hnight' : night = inNight c.nightStart c.nightEnd := funext fun m => (hnight m).trans (inNight_eq ..).symm
  subst hacc hlow hhigh hnight'
  refine ⟨rfl, rfl, rfl, rfl, rfl, breakDue_iff .., rfl, ?_, ?_, ?_, ?_, rfl⟩
  · exact (length_filter_below ..).symm
  · exact (length_filter_between ..).symm
  · exact (length_filter_above ..).symm
  · exact nightMinutes_eq ..

/-! ### The identities -/

/-- R91 to R100: what holds of every result. -/
def identical (e : ShiftEntry) (rate : Nat) (r : PayResult) : Prop := ∃ span : Nat,
  (r.flags.zero = true → span = 0) ∧ (r.flags.zero = false → (span : Int) = absDiff r.effOut r.effIn ∧ 1 ≤ span ∧ span ≤ 2880) ∧
    r.regular + r.ot1 + r.ot2 + r.breakMinutes = span ∧ r.regular ≤ e.limit ∧ (r.flags.offDay = true → r.regular = 0) ∧
    r.ot1 ≤ e.limit2 - e.limit ∧ r.night ≤ span ∧
    (r.flags.zero = true → r.regular = 0 ∧ r.ot1 = 0 ∧ r.ot2 = 0 ∧ r.night = 0 ∧ r.breakMinutes = 0 ∧ r.credits = 0 ∧ r.pay = 0) ∧
    r.credits = 4 * r.regular + 6 * r.ot1 + 8 * r.ot2 + r.night ∧ r.pay = (r.credits * rate + 120) / 240

theorem identical_zeroResult (e : ShiftEntry) (rate : Nat) (iv : OpenInterval) (effIn effOut : Nat) (cause : ZeroCause) :
    identical e rate (zeroResult iv effIn effOut cause) := by
  have hzero : (zeroResult iv effIn effOut cause).flags.zero = true := by cases cause <;> rfl
  refine ⟨0, fun _ => rfl, fun h => (nomatch hzero.symm.trans h), rfl, Nat.zero_le _, fun _ => rfl, Nat.zero_le _, Nat.zero_le _,
    fun _ => ⟨rfl, rfl, rfl, rfl, rfl, rfl, rfl⟩, rfl, ?_⟩
  change 0 = (0 * rate + 120) / 240
  omega

theorem absDiff_absAdd (a : Nat) : absDiff (absAdd a 2880) a = 2880 := by
  obtain ⟨-, k, hk⟩ := absAdd_spec a 2880
  exact absDiff_unique _ _ _ (-k) (by decide) (by decide) (by omega)

/-- R97: the limits of an occurrence stand in their order. -/
theorem limits_ordered {e : ShiftEntry} (kind : OccKind) (h : e.limit ≤ e.limit2) : regularLimit e kind ≤ overtimeLimit e kind ∧
    regularLimit e kind ≤ e.limit ∧ overtimeLimit e kind - regularLimit e kind ≤ e.limit2 - e.limit := by
  unfold regularLimit overtimeLimit
  split <;> omega

/-- R96: the break fits into the span. -/
theorem breakMinutes_le (c : Settings) (iv : OpenInterval) (acc : Option Accumulator) (start effIn effOut : Nat) (w : Int)
    (rate : Nat) : (paidResult c iv acc start effIn effOut w rate).1.breakMinutes ≤ min 2880 w.toNat := by
  change (if _ then _ else _) ≤ _
  split
  · exact min_le_right _ _
  · exact Nat.zero_le _

theorem identical_paidResult (c : Settings) {iv : OpenInterval} (acc : Option Accumulator) (start effIn effOut : Nat) {w : Int}
    (rate : Nat) (hlimits : (c.shift iv.code).limit ≤ (c.shift iv.code).limit2) (hw : 0 < w) (hspan : w = absDiff effOut effIn) :
    identical (c.shift iv.code) rate (paidResult c iv acc start effIn effOut w rate).1 := by
  obtain ⟨hordered, hlow, hhigh⟩ := limits_ordered iv.kind hlimits
  refine ⟨min 2880 w.toNat, nofun, fun _ => ⟨?_, by omega, by omega⟩, ?_, ?_, fun hoff => ?_, (onScale_le ..).trans hhigh,
    nightMinutes_le .., nofun, rfl, rfl⟩
  · by_cases hlong : 2880 < w
    · have hout : (paidResult c iv acc start effIn effOut w rate).1.effOut = absAdd effIn 2880 := if_pos hlong
      have hin : (paidResult c iv acc start effIn effOut w rate).1.effIn = effIn := rfl
      rw [hout, hin, absDiff_absAdd]
      omega
    · have hout : (paidResult c iv acc start effIn effOut w rate).1.effOut = effOut := if_neg hlong
      have hin : (paidResult c iv acc start effIn effOut w rate).1.effIn = effIn := rfl
      rw [hout, hin, ← hspan]
      omega
  · have hbreak : (paidResult c iv acc start effIn effOut w rate).1.breakMinutes ≤ min 2880 w.toNat := breakMinutes_le ..
    have hsum := onScale_sum (Nat.le_add_right (accumulatorFor acc start iv.code).net
      (min 2880 w.toNat - (paidResult c iv acc start effIn effOut w rate).1.breakMinutes)) hordered
    rw [Nat.add_sub_cancel_left] at hsum
    exact (congrArg (· + _) hsum).trans (Nat.sub_add_cancel hbreak)
  · exact (onScale_le ..).trans ((Nat.sub_le _ _).trans hlow)
  · have hkind : iv.kind = .offDay := beq_iff_eq.1 hoff
    have hzero : regularLimit (c.shift iv.code) iv.kind = 0 := if_neg (by rw [hkind]; decide)
    refine Nat.le_zero.1 ((onScale_le ..).trans ?_)
    rw [hzero]

/-- Settles O44: the conditions in their order, the paid close, and the identities of each. -/
theorem resultIdentities : Obligations.ResultIdentities := by
  intro c iv acc out rate r after effIn effOut inMinutes outMinutes w zero hlimits hclose hin hout heffIn heffOut hw hzero
  rw [← inMinute_eq] at hin
  rw [← outMinute_eq] at hout
  subst hin hout heffIn heffOut
  obtain rfl : w = spanOf c iv out := hw
  have hzeroed {cause : ZeroCause} {flags : ResultFlags} (h : zeroCause iv.kind iv.key.stamp out (spanOf c iv out) = some cause)
      (hflags : zeroFlags iv.kind cause = { flags with offDay := decide (iv.kind = .offDay) }) : r = zero flags ∧ after = acc := by
    obtain ⟨rfl, rfl⟩ := Prod.mk.inj (hclose.symm.trans (closeInterval_zero c iv acc out rate h))
    rw [hzero, ← hflags]
    exact ⟨rfl, rfl⟩
  refine ⟨fun hk => hzeroed (zeroCause_noShift _ _ _ hk) rfl, fun hk hn => hzeroed (zeroCause_negative _ hk hn) rfl,
    fun hk hn => ⟨fun hlong => hzeroed (zeroCause_overlong _ hk hn hlong) rfl,
      fun hlong hw => hzeroed (zeroCause_nullSpan hk hn hlong hw) rfl, fun hlong hw start hstart => ?_⟩, ?_⟩
  · obtain ⟨rfl, rfl⟩ := Prod.mk.inj (hclose.symm.trans (closeInterval_paid c iv acc out rate (zeroCause_none hk hn hlong hw) hstart))
    exact paidAs_paidResult c iv acc start _ _ _ rate
  · change identical (c.shift iv.code) rate r
    cases hcause : zeroCause iv.kind iv.key.stamp out (spanOf c iv out) with
    | some cause =>
      obtain ⟨rfl, -⟩ := Prod.mk.inj (hclose.symm.trans (closeInterval_zero c iv acc out rate hcause))
      exact identical_zeroResult ..
    | none =>
      cases hstart : iv.start with
      | none =>
        obtain ⟨rfl, -⟩ := Prod.mk.inj (hclose.symm.trans (closeInterval_noStart c iv acc out rate hcause hstart))
        exact identical_zeroResult ..
      | some start =>
        obtain ⟨rfl, -⟩ := Prod.mk.inj (hclose.symm.trans (closeInterval_paid c iv acc out rate hcause hstart))
        exact identical_paidResult c acc start _ _ rate hlimits (of_zeroCause_none hcause).2 rfl

end Sys2Proof.Machine

/-! PROOFS. The report of a passage: what it leaves of the state it is reported in, whatever the gate and the reservations there
(R56 to R58). -/

namespace Sys2Proof.Machine

/-! ### The roster's part of a commit -/

theorem countPlace_counters_congr (p : CreditPlace) {s u : State} (h : u.counters = s.counters) :
    (countPlace p u).counters = (countPlace p s).counters := by
  cases p
  case stale => exact congrArg (fun k => (bump .resultStale { s with counters := k }).counters) h
  case previousCollected => exact congrArg (fun k => (bump .collectedCredited { s with counters := k }).counters) h
  all_goals exact h

theorem bump_counters_congr (c : Counter) {s u : State} (h : u.counters = s.counters) :
    (bump c u).counters = (bump c s).counters := congrArg (fun k => (bump c { s with counters := k }).counters) h

/-- R39 to R41: the roster's part of a commit reads nothing but the roster, the settings and the counters. -/
theorem commitRoster_counters_congr (p : PendingPunch) (stamp : Stamp) {s u : State} (hroster : u.roster = s.roster)
    (hsettings : u.settings = s.settings) (hcounters : u.counters = s.counters) :
    (commitRoster p stamp u).1.counters = (commitRoster p stamp s).1.counters := by
  have hrecord : u.record p.badge = s.record p.badge := congrArg (findRecord p.badge) hroster
  cases hx : s.record p.badge with
  | none =>
    rw [commitRoster_of_none stamp hx, commitRoster_of_none stamp (hrecord.trans hx)]
    exact bump_counters_congr _ hcounters
  | some x =>
    cases hr : p.reader with
    | entry =>
      rw [commitRoster_entry stamp hx hr rfl rfl, commitRoster_entry stamp (hrecord.trans hx) hr rfl rfl]
      change (bumpIf _ _ u).counters = (bumpIf _ _ s).counters
      cases x.interval.isSome
      · exact hcounters
      · exact bump_counters_congr _ hcounters
    | exit =>
      cases hinterval : x.interval with
      | none =>
        rw [commitRoster_exit_none stamp hx hr rfl hinterval, commitRoster_exit_none stamp (hrecord.trans hx) hr rfl hinterval]
        exact hcounters
      | some iv =>
        rw [commitRoster_exit_some stamp hx hr rfl hinterval, commitRoster_exit_some stamp (hrecord.trans hx) hr rfl hinterval, hsettings]
        change (countOwnClose s.settings iv stamp x u).counters = (countOwnClose s.settings iv stamp x s).counters
        unfold countOwnClose
        split
        · exact bump_counters_congr _ hcounters
        · exact countPlace_counters_congr _ hcounters

/-! ### A commit seen from an earlier state -/

theorem committed_congr {s u t : State} {p : PendingPunch} {stamp : Stamp} {reserved : Nat} (h : committed u t p stamp reserved)
    (hroster : u.roster = s.roster) (hsettings : u.settings = s.settings) (hcounters : u.counters = s.counters)
    (hjournal : u.journal = s.journal) (hclock : u.clock = s.clock)
    (hline : { u.line with reserved := reserved } = { s.line with reserved := reserved })
    (hmessages : u.panel.messages = s.panel.messages)
    (hsaved : ∀ text d, overlaid u t text d → overlaid s t text d) : committed s t p stamp reserved := by
  obtain ⟨hafter, hnotice, hmessage, hcounter⟩ := h
  obtain ⟨hsame, hinfo⟩ := commitRoster_congr p stamp s u hroster hsettings
  have hcounts := commitRoster_counters_congr p stamp hroster hsettings hcounters
  rw [hinfo] at hnotice hmessage
  have hwrote {stamp : Stamp} {r : Option Reader} {b : Option Nat} {o : JournalOutcome} {a : Announcement} {f : Option PunchFlags}
      (hw : wrote u t stamp r b o a f) : wrote s t stamp r b o a f := by
    unfold wrote at hw ⊢
    rw [hjournal, hclock] at hw
    exact hw
  refine ⟨hafter.trans hsame, fun n hn => ?_, fun index hi => ?_, fun k hj hd => (hcounter k hj hd).trans ?_⟩
  · obtain ⟨h1, h2, h3, h4, h5, h6, h7, h8, h9, h10, h11, hw, hl⟩ := hnotice n (by rw [hn, hjournal])
    refine ⟨h1, h2, by rw [h3, hjournal], h4, h5, h6, h7, h8, h9, h10, h11, hwrote hw, hl.trans ?_⟩
    exact congrArg (fun l => ({ l with tx := l.tx ++ [{ payload := .punch n, attempts := 0 }],
                                       backoff := if l.tx = [] then 0 else l.backoff } : Line)) hline
  · have hoverlay := hsaved _ _ (hmessage index hi)
    rw [hmessages] at hoverlay
    exact hoverlay
  · exact congrArg (Vector.get · k.index) hcounts

/-- R166: an overlay over an overlay saves the text that the first one saved. -/
theorem overlaid_over {s t v : State} {text text' : List Byte} {d d' : Nat} (h : overlaid s t text d) (hnow : t.now = s.now)
    (h' : overlaid t v text' d') : overlaid s v text' d' := by
  obtain ⟨-, hoverlay⟩ := h
  obtain ⟨hrow, hover⟩ := h'
  refine ⟨hrow, hover.trans ?_⟩
  rw [hoverlay, hnow]

/-! ### The report -/

theorem reportPassage_of_none {s : State} (h : s.pendingPunch = none) : reportPassage s = s := by
  unfold reportPassage
  rw [h]

theorem reportPassage_of_passage {s : State} {p : PendingPunch} (h : s.pendingPunch = some p) (hkind : p.kind = .passage) :
    reportPassage s = confirmNoPunch p s := by
  unfold reportPassage
  rw [h]
  dsimp only
  rw [hkind]

theorem reportPassage_of_punch {s : State} {p : PendingPunch} {stamp : Stamp} (h : s.pendingPunch = some p) (hkind : p.kind = .punch)
    (hstamp : p.stamp = some stamp) : reportPassage s = commitPunch p stamp s := by
  unfold reportPassage
  rw [h]
  dsimp only
  rw [hkind, hstamp]

/-- R56, R58: a passage reported in a state whose gate alone differs from an earlier one. -/
def reported (s t : State) : Prop :=
  t.pendingPunch = none ∧ (s.pendingPunch = none → t = { s with gate := t.gate }) ∧
    (∀ p, s.pendingPunch = some p → p.kind = .passage →
      wrote s t s.clock.stamp (some p.reader) (some p.badge) .passageNoPunch .none none ∧
        t = { s with gate := t.gate, journal := t.journal, pendingPunch := none, counters := t.counters }) ∧
    ∀ p stamp, s.pendingPunch = some p → p.kind = .punch → p.stamp = some stamp →
      committed s t p stamp (s.line.reserved - 1) ∧ ((commitRoster p stamp s).2.message = none → t.panel = s.panel) ∧
        t = { s with gate := t.gate, journal := t.journal, pendingPunch := none, counters := t.counters, line := t.line,
                     roster := t.roster, panel := t.panel }

theorem reportPassage_reported {s u : State} (hu : u = { s with gate := u.gate }) (hrun : panelRuns s = true)
    (hstamped : ∀ p, s.pendingPunch = some p → p.stamped) :
    (reportPassage u).gate = u.gate ∧ reported s (reportPassage u) := by
  have hpending : u.pendingPunch = s.pendingPunch := by rw [hu]
  cases hp : s.pendingPunch with
  | none =>
    rw [reportPassage_of_none (hpending.trans hp)]
    exact ⟨rfl, hpending.trans hp, fun _ => hu, fun p h => (nomatch hp.symm.trans h), fun p _ h => nomatch hp.symm.trans h⟩
  | some p =>
    cases hkind : p.kind with
    | passage =>
      rw [reportPassage_of_passage (hpending.trans hp) hkind, confirmNoPunch]
      have hw := wrote_writeJournal u.clock.stamp (some p.reader) (some p.badge) .passageNoPunch .none none u
      obtain ⟨j, k, h⟩ := writeJournal_changes u.clock.stamp (some p.reader) (some p.badge) .passageNoPunch .none none u
      rw [h] at hw ⊢
      refine ⟨rfl, rfl, fun h => (nomatch hp.symm.trans h), fun q hq _ => ?_, fun q stamp hq hk => ?_⟩
      · obtain rfl := Option.some.inj (hp.symm.trans hq)
        rw [hu] at hw ⊢
        exact ⟨hw, rfl⟩
      · obtain rfl := Option.some.inj (hp.symm.trans hq)
        exact nomatch hk.symm.trans hkind
    | punch =>
      obtain ⟨stamp, hstamp⟩ := Option.isSome_iff_exists.1 (hstamped p hp hkind)
      have hruns : panelRuns u = true := by rw [hu]; exact hrun
      obtain ⟨hcommitted, hpanel, hframe⟩ := commitPunch_committed p stamp u hruns
      rw [reportPassage_of_punch (hpending.trans hp) hkind hstamp]
      generalize commitPunch p stamp u = t at hcommitted hpanel hframe
      have hinfo : (commitRoster p stamp u).2 = (commitRoster p stamp s).2 :=
        (commitRoster_congr p stamp s u (by rw [hu]) (by rw [hu])).2
      have hreserved : u.line = s.line := by rw [hu]
      rw [hreserved] at hcommitted
      refine ⟨by rw [hframe], by rw [hframe], fun h => (nomatch hp.symm.trans h), fun q hq hk => ?_, fun q stamp' hq _ hs => ?_⟩
      · obtain rfl := Option.some.inj (hp.symm.trans hq)
        exact nomatch hk.symm.trans hkind
      · obtain rfl := Option.some.inj (hp.symm.trans hq)
        obtain rfl := Option.some.inj (hstamp.symm.trans hs)
        refine ⟨committed_congr hcommitted (by rw [hu]) (by rw [hu]) (by rw [hu]) (by rw [hu]) (by rw [hu]) (by rw [hu])
          (by rw [hu]) (fun text d h => by rw [hu] at h; exact h), fun hnone => (hpanel (hinfo ▸ hnone)).trans (by rw [hu]), ?_⟩
        rw [hframe, hu]

end Sys2Proof.Machine

/-! PROOFS. The release cycle: leaving OFF, the door, the exit button and Remote Release, the two timers (R64 to R81). -/

namespace Sys2Proof.Machine

/-! ### Entries and latched events -/

/-- R161: a gate entry changes the journal and its counter alone. -/
theorem writeGateEntry_wrote (outcome : JournalOutcome) (s : State) :
    wrote s (writeGateEntry outcome s) s.clock.stamp none none outcome .none none ∧
      writeGateEntry outcome s =
        { s with journal := (writeGateEntry outcome s).journal, counters := (writeGateEntry outcome s).counters } := by
  refine ⟨wrote_writeJournal .., ?_⟩
  obtain ⟨j, k, h⟩ := writeJournal_changes s.clock.stamp none none outcome .none none s
  rw [writeGateEntry, h]

/-- R161: a gate entry written with the gate moved on, seen from the gate before. -/
theorem writeGateEntry_moved (outcome : JournalOutcome) (g : Gate) (s : State) :
    ∃ t, writeGateEntry outcome { s with gate := g } = t ∧ t.gate = g ∧
      wrote s t s.clock.stamp none none outcome .none none ∧
      t = { s with gate := t.gate, journal := t.journal, counters := t.counters } := by
  obtain ⟨hw, ht⟩ := writeGateEntry_wrote outcome { s with gate := g }
  generalize writeGateEntry outcome { s with gate := g } = t at hw ht
  exact ⟨t, rfl, by rw [ht], hw, by rw [ht]⟩

theorem Input.take_of_cons {i : Input} {e : Latched} {later : List Latched} {level : Bool} (h : i.latched = e :: later)
    (hlevel : e.level = level) : i.take level = some ({ i with latched := later }, e.early) := by
  unfold Input.take
  rw [h]
  exact if_pos hlevel

/-- R64: the oldest latched door event is gone. -/
def doorTaken (s : State) (later : List Latched) : State :=
  { s with gate := { s.gate with door := { s.gate.door with latched := later } } }

/-- R64: the oldest latched press is gone. -/
def pressTaken (s : State) (later : List Latched) : State :=
  { s with gate := { s.gate with button := { s.gate.button with latched := later } } }

/-- R64: the oldest latched event of the free-passage input is gone. -/
def freeTaken (s : State) (later : List Latched) : State :=
  { s with gate := { s.gate with freePassage := { s.gate.freePassage with latched := later } } }

theorem takeDoor_of_latched {s : State} {e : Latched} {later : List Latched} (effect : State → State) (hrun : running s = true)
    (h : s.gate.door.latched = e :: later) :
    takeDoor e.level effect s = if e.early then doorTaken s later else effect (doorTaken s later) := by
  unfold takeDoor
  rw [if_pos hrun, Input.take_of_cons h rfl]
  rfl

theorem exitButtonPress_of_latched {s : State} {e : Latched} {later : List Latched} (hrun : running s = true)
    (h : s.gate.button.latched = e :: later) (hlevel : e.level = true) :
    exitButtonPress s = if e.early then pressTaken s later else takePress (pressTaken s later) := by
  unfold exitButtonPress
  rw [if_pos hrun, Input.take_of_cons h hlevel]
  rfl

/-! ### Leaving OFF -/

theorem inputsEstablished_of {s : State} (hrun : running s = true) (hoff : s.gate.cycle = .off) (hready : established s = true) :
    inputsEstablished s =
      if freePassageOn s then enterDeciding .free s
      else if doorOpen s then writeGateEntry .heldOpen (enterCycle .heldOpen s)
      else enterDeciding .idle s := by
  unfold inputsEstablished
  rw [if_pos (by rw [hrun, hoff, hready]; rfl)]

theorem established_of {s : State} (hdoor : s.settings.confirm = true → s.gate.door.accepted.isSome = true)
    (hbutton : s.gate.button.accepted.isSome = true) (hfree : s.gate.freePassage.accepted.isSome = true) : established s = true := by
  unfold established
  rw [hbutton, hfree]
  cases hc : s.settings.confirm with
  | false => rfl
  | true => rw [hdoor hc]; rfl

theorem freePassageOn_of {s : State} {b : Bool} (h : s.gate.freePassage.accepted = some b) : freePassageOn s = b := by
  unfold freePassageOn
  rw [h]
  cases b <;> rfl

theorem doorOpen_eq_true {s : State} (hc : s.settings.confirm = true) (h : s.gate.door.accepted = some true) : doorOpen s = true := by
  rw [doorOpen, hc, h]
  rfl

theorem doorOpen_eq_false {s : State} (h : s.settings.confirm = false ∨ s.gate.door.accepted ≠ some true) : doorOpen s = false := by
  rw [← Bool.not_eq_true, doorOpen, Bool.and_eq_true, beq_iff_eq]
  rintro ⟨hc, hd⟩
  exact h.elim (fun h => nomatch hc.symm.trans h) (fun h => h hd)

/-- Settles O34: by the accepted levels of free passage and door. -/
theorem inputsEstablishedLeaveOff : Obligations.InputsEstablishedLeaveOff := by
  intro s hrun hoff hdoor hbutton
  refine ⟨fun hfree => ?_, fun hfree hc hd => ?_, fun hfree hclosed => ?_⟩
  · have he := inputsEstablished_of hrun hoff (established_of hdoor hbutton (by rw [hfree]; rfl))
    rw [freePassageOn_of hfree] at he
    exact congrArg Host.Outcome.next he
  · have he := inputsEstablished_of hrun hoff (established_of hdoor hbutton (by rw [hfree]; rfl))
    rw [freePassageOn_of hfree, doorOpen_eq_true hc hd] at he
    obtain ⟨t, ht, hgate, hw, hframe⟩ := writeGateEntry_moved .heldOpen
      { s.gate with cycle := .heldOpen, releaseTimer := none, holdTimer := none } s
    exact ⟨t, congrArg Host.Outcome.next (he.trans ht), hgate, hw, by rw [alarmOutput, hgate]; rfl, hframe⟩
  · have he := inputsEstablished_of hrun hoff (established_of hdoor hbutton (by rw [hfree]; rfl))
    rw [freePassageOn_of hfree, doorOpen_eq_false (hclosed.imp id fun h => by rw [h]; decide)] at he
    exact congrArg Host.Outcome.next he

/-! ### The door -/

theorem takeDoorCloses_of_waiting {s : State} (h : s.gate.cycle = .passing ∨ s.gate.cycle = .heldOpen ∨ s.gate.cycle = .forced) :
    takeDoorCloses s = enterDeciding .idle s := by
  unfold takeDoorCloses
  obtain h | h | h := h <;> rw [h]

theorem takeDoorCloses_of_other {s : State}
    (h : s.gate.cycle = .idle ∨ s.gate.cycle = .released ∨ s.gate.cycle = .free ∨ s.gate.cycle = .off) : takeDoorCloses s = s := by
  unfold takeDoorCloses
  obtain h | h | h | h := h <;> rw [h]

theorem takeDoorOpens_of_other {s : State} (h : s.gate.cycle ≠ .idle ∧ s.gate.cycle ≠ .released) : takeDoorOpens s = s := by
  unfold takeDoorOpens
  cases hc : s.gate.cycle
  case idle => exact absurd hc h.1
  case released => exact absurd hc h.2
  all_goals rfl

theorem doorCloses_of_latched {s : State} {e : Latched} {later : List Latched} (hrun : running s = true)
    (h : s.gate.door.latched = e :: later) (hlevel : e.level = false) :
    doorCloses s = if e.early then doorTaken s later else takeDoorCloses (doorTaken s later) := by
  have htake := takeDoor_of_latched takeDoorCloses hrun h
  rw [hlevel] at htake
  exact htake

theorem doorOpens_of_latched {s : State} {e : Latched} {later : List Latched} (hrun : running s = true)
    (h : s.gate.door.latched = e :: later) (hlevel : e.level = true) :
    doorOpens s = if e.early then doorTaken s later else takeDoorOpens (doorTaken s later) := by
  have htake := takeDoor_of_latched takeDoorOpens hrun h
  rw [hlevel] at htake
  exact htake

/-- Settles O35: a closing in PASSING, and the closings without effect. -/
theorem doorClosingEndsThePassage : Obligations.DoorClosingEndsThePassage := by
  refine ⟨fun s e later hrun hlatched hlevel hidle => ?_, fun s later hrun hpassing hlatched => ?_⟩
  · refine congrArg Host.Outcome.next ((doorCloses_of_latched hrun hlatched hlevel).trans ?_)
    by_cases hearly : e.early = true
    · exact if_pos hearly
    · exact (if_neg hearly).trans (takeDoorCloses_of_other (s := doorTaken s later) (hidle.resolve_left hearly))
  · exact congrArg Host.Outcome.next ((doorCloses_of_latched hrun hlatched rfl).trans
      (takeDoorCloses_of_waiting (s := doorTaken s later) (.inl hpassing)))

theorem takeDoorOpens_of_idle {s : State} (h : s.gate.cycle = .idle) :
    takeDoorOpens s = writeGateEntry .forced (enterCycle .forced s) := by
  unfold takeDoorOpens
  rw [h]

theorem takeDoorOpens_of_released {s : State} (h : s.gate.cycle = .released) :
    takeDoorOpens s = reportPassage (enterPassing s) := by
  unfold takeDoorOpens
  rw [h]

/-- Settles O37: an opening without effect, in IDLE, and in RELEASED with the passage reported. -/
theorem doorOpeningsForceOrPass : Obligations.DoorOpeningsForceOrPass := by
  refine ⟨fun s e later hrun hlatched hlevel hother => ?_, fun s later hrun hlatched => ⟨fun hidle => ?_, fun hreleased hstamped => ?_⟩⟩
  · refine congrArg Host.Outcome.next ((doorOpens_of_latched hrun hlatched hlevel).trans ?_)
    by_cases hearly : e.early = true
    · exact if_pos hearly
    · exact (if_neg hearly).trans (takeDoorOpens_of_other (s := doorTaken s later) (hother.resolve_left hearly))
  · have hopen := (doorOpens_of_latched hrun hlatched rfl).trans (takeDoorOpens_of_idle (s := doorTaken s later) hidle)
    obtain ⟨t, ht, hgate, hw, hframe⟩ := writeGateEntry_moved .forced
      { s.gate with cycle := .forced, releaseTimer := none, holdTimer := none, door := { s.gate.door with latched := later } } s
    exact ⟨t, congrArg Host.Outcome.next (hopen.trans ht), by rw [alarmOutput, hgate]; rfl, hw, hgate, hframe⟩
  · have hopen := (doorOpens_of_latched hrun hlatched rfl).trans (takeDoorOpens_of_released (s := doorTaken s later) hreleased)
    obtain ⟨hgate, hreported⟩ := reportPassage_reported (s := s) (u := enterPassing (doorTaken s later)) rfl
      (panelRuns_of_running s hrun) hstamped
    generalize reportPassage (enterPassing (doorTaken s later)) = t at hopen hgate hreported
    obtain ⟨hpending, hnone, hpassage, hpunch⟩ := hreported
    exact ⟨t, congrArg Host.Outcome.next hopen, by rw [releaseOutput, hgate]; rfl, hpending, hgate, hnone, hpassage, hpunch⟩

/-! ### The timers -/

theorem releaseTimerExpiry_of_due {s : State} {timer : Timer} (hrun : running s = true) (hreleased : s.gate.cycle = .released)
    (htimer : s.gate.releaseTimer = some timer) (hdue : timer.duration ≤ elapsedSince s.now timer.start) :
    releaseTimerExpiry s = enterDeciding .idle (withdrawPending s) := by
  unfold releaseTimerExpiry
  have htrue : timerDue s.gate.releaseTimer s.now = true := by
    rw [htimer]
    exact decide_eq_true hdue
  rw [if_pos (by rw [hrun, hreleased, htrue]; rfl)]

theorem holdTimerExpiry_of_due {s : State} {timer : Timer} (hrun : running s = true) (hpassing : s.gate.cycle = .passing)
    (htimer : s.gate.holdTimer = some timer) (hdue : timer.duration ≤ elapsedSince s.now timer.start) : holdTimerExpiry s =
      if s.rushOpen then enterPassing s else writeGateEntry .heldOpen (enterCycle .heldOpen s) := by
  unfold holdTimerExpiry
  have htrue : timerDue s.gate.holdTimer s.now = true := by
    rw [htimer]
    exact decide_eq_true hdue
  rw [if_pos (by rw [hrun, hpassing, htrue]; rfl)]

/-- R60: the withdrawal of a pending punch, with its entry and its reservation. -/
theorem withdrawPending_withdrawn {s : State} {p : PendingPunch} (hp : s.pendingPunch = some p) :
    wrote s (withdrawPending s) s.clock.stamp (some p.reader) (some p.badge) .withdrawn .none none ∧
      (withdrawPending s).line = { s.line with reserved := if p.kind = .punch then s.line.reserved - 1 else s.line.reserved } ∧
      withdrawPending s = { s with journal := (withdrawPending s).journal, pendingPunch := none, line := (withdrawPending s).line
                                   counters := (withdrawPending s).counters } := by
  unfold withdrawPending
  rw [hp]
  dsimp only
  cases p.kind with
  | punch =>
    have hw := wrote_writeJournal s.clock.stamp (some p.reader) (some p.badge) .withdrawn .none none (unreserve s)
    obtain ⟨j, k, h⟩ := writeJournal_changes s.clock.stamp (some p.reader) (some p.badge) .withdrawn .none none (unreserve s)
    rw [h] at hw ⊢
    exact ⟨hw, rfl, rfl⟩
  | passage =>
    have hw := wrote_writeJournal s.clock.stamp (some p.reader) (some p.badge) .withdrawn .none none s
    obtain ⟨j, k, h⟩ := writeJournal_changes s.clock.stamp (some p.reader) (some p.badge) .withdrawn .none none s
    rw [h] at hw ⊢
    exact ⟨hw, rfl, rfl⟩

/-- Settles O40: the expiry of the release timer with and without a punch, of the hold timer with and without a rush window. -/
theorem gateTimersRunOut : Obligations.GateTimersRunOut := by
  intro s timer hrun hdue
  refine ⟨fun hreleased htimer => ?_, fun hpassing htimer => ⟨fun hrush => ?_, fun hrush => ?_⟩⟩
  · have hexpiry := releaseTimerExpiry_of_due hrun hreleased htimer hdue
    refine ⟨enterCycle .idle (withdrawPending s), congrArg Host.Outcome.next hexpiry, ?_, ?_, fun hnone => ?_, fun p hp => ?_⟩
    · obtain ⟨j, k, n, h⟩ := withdrawPending_changes s
      rw [h]
      rfl
    · obtain ⟨j, k, n, h⟩ := withdrawPending_changes s
      rw [h]
      rfl
    · rw [withdrawPending_of_none hnone]
      rfl
    · obtain ⟨hw, hline, hframe⟩ := withdrawPending_withdrawn hp
      generalize withdrawPending s = u at hw hline hframe
      exact ⟨hw, hline, by rw [hframe]; rfl⟩
  · have hexpiry := holdTimerExpiry_of_due hrun hpassing htimer hdue
    rw [if_neg (by rw [State.rushOpen, hrush]; decide)] at hexpiry
    obtain ⟨t, ht, hgate, hw, hframe⟩ := writeGateEntry_moved .heldOpen
      { s.gate with cycle := .heldOpen, releaseTimer := none, holdTimer := none } s
    exact ⟨t, congrArg Host.Outcome.next (hexpiry.trans ht), hw, hgate, hframe⟩
  · have hexpiry := holdTimerExpiry_of_due hrun hpassing htimer hdue
    rw [if_pos (show s.rushOpen = true from hrush)] at hexpiry
    refine congrArg Host.Outcome.next (hexpiry.trans ?_)
    rw [enterPassing, ← hpassing]
    rfl

/-! ### The exit button and Remote Release -/

/-- R68: RELEASED from a state, with the release time by the rush window. -/
def releasedGate (s : State) : Gate :=
  { s.gate with cycle := .released, holdTimer := none,
                releaseTimer := some { start := s.now, duration := 1000 *
                  (if s.bell.rush.isSome then s.settings.rushTime else s.settings.releaseTime) } }

theorem releaseGate_moved (outcome : JournalOutcome) (s : State) :
    ∃ t, releaseGate outcome s = t ∧ t.gate = releasedGate s ∧ wrote s t s.clock.stamp none none outcome .none none ∧
      t = { s with gate := t.gate, journal := t.journal, counters := t.counters } :=
  writeGateEntry_moved outcome (releasedGate s) s

theorem exec_remoteRelease_ready {s : State} {office dest : Nat} {tag : Byte} {rest : List RxFrame} (haddressed : dest ≠ 0)
    (hready : requestReady s office dest 0x10#8 tag [] rest) : exec .remoteRelease s =
      .next (answered office dest 0x10#8 tag (remoteReleaseGate (taken s rest)).2 [] (remoteReleaseGate (taken s rest)).1) := by
  have hserve : exec .remoteRelease s = .next (serve remoteReleaseKind s) := rfl
  rw [hserve, serve_ready remoteReleaseKind s office dest 0x10#8 tag [] rest hready rfl rfl rfl (.inl haddressed)]
  simp only [remoteReleaseKind, answer, sendAnswer_answered]

/-- Settles O39: a press and a Remote Release in IDLE and elsewhere. -/
theorem releasesWithoutAPunch : Obligations.ReleasesWithoutAPunch := by
  intro s hrun
  refine ⟨fun later hlatched => ⟨fun hidle => ?_, fun hother => ?_⟩, fun later hlatched => ?_,
    fun office dest tag rest haddressed hready => ⟨fun hidle => ?_, fun hother => ?_⟩⟩
  · have hpress := exitButtonPress_of_latched hrun hlatched rfl
    rw [if_neg (by decide), takePress, if_pos (show (pressTaken s later).gate.cycle = .idle from hidle)] at hpress
    obtain ⟨t, ht, hgate, hw, hframe⟩ := releaseGate_moved .exitButton (pressTaken s later)
    exact ⟨t, congrArg Host.Outcome.next (hpress.trans ht), hw, hgate, hframe⟩
  · exact congrArg Host.Outcome.next ((exitButtonPress_of_latched hrun hlatched rfl).trans
      (if_neg (show ¬(pressTaken s later).gate.cycle = .idle from hother)))
  · exact congrArg Host.Outcome.next (exitButtonPress_of_latched hrun hlatched rfl)
  · have hexec := exec_remoteRelease_ready haddressed hready
    rw [remoteReleaseGate, if_pos (show (taken s rest).gate.cycle = .idle from hidle)] at hexec
    obtain ⟨t, ht, hgate, hw, hframe⟩ := releaseGate_moved .remoteRelease (taken s rest)
    exact ⟨t, by rw [hexec, ht], hw, hgate, hframe⟩
  · have hexec := exec_remoteRelease_ready haddressed hready
    rw [remoteReleaseGate, if_neg (show ¬(taken s rest).gate.cycle = .idle from hother)] at hexec
    exact hexec

/-! ### HELD OPEN and FORCED -/

/-- Settles O36: each step named, in HELD OPEN and in FORCED. -/
theorem heldOpenAndForcedWaitForTheDoor : Obligations.HeldOpenAndForcedWaitForTheDoor := by
  intro s hrun hcycle
  have hidle : s.gate.cycle ≠ .idle := by rintro h; rw [h] at hcycle; exact nomatch hcycle
  have hdecides : s.gate.cycle.decides = false := by obtain h | h := hcycle <;> rw [h] <;> rfl
  refine ⟨by obtain h | h := hcycle <;> rw [alarmOutput, h] <;> rfl, fun later hlatched => ?_, fun later hlatched => ?_,
    fun office dest tag rest haddressed hready => ?_, ?_, ?_, ?_, fun m => ?_⟩
  · obtain ⟨w, k, h⟩ := testHead_changes (enterCycle .idle (doorTaken s later))
    refine ⟨enterCycle .idle (doorTaken s later), congrArg Host.Outcome.next ((doorCloses_of_latched hrun hlatched rfl).trans
      (takeDoorCloses_of_waiting (s := doorTaken s later) (.inr hcycle))), by rw [h]; rfl, by rw [h]; rfl, rfl⟩
  · exact congrArg Host.Outcome.next ((exitButtonPress_of_latched hrun hlatched rfl).trans
      (if_neg (show ¬(pressTaken s later).gate.cycle = .idle from hidle)))
  · have hexec := exec_remoteRelease_ready haddressed hready
    rw [remoteReleaseGate, if_neg (show ¬(taken s rest).gate.cycle = .idle from hidle)] at hexec
    exact hexec
  · refine congrArg Host.Outcome.next ?_
    unfold decideHead
    split
    · rfl
    · rw [if_neg (by simp [mayDecide, hdecides]), testHead_of_not_decides s hdecides]
  · refine congrArg Host.Outcome.next (if_neg ?_)
    obtain h | h := hcycle <;> simp [h]
  · refine congrArg Host.Outcome.next (if_neg ?_)
    obtain h | h := hcycle <;> simp [h]
  · unfold openRush
    split <;> rfl

end Sys2Proof.Machine

/-! PROOFS. Free passage, at a configured and at an UNCONFIGURED station (R79, R80, R84). -/

namespace Sys2Proof.Machine

theorem running_of_unconfigured {s : State} (h : unconfiguredMain s = true) : running s = false := by
  rw [unconfiguredMain, Bool.and_eq_true, beq_iff_eq] at h
  rw [running, h.2]
  cases s.starts.supply == .main && !s.starts.pinHeld <;> rfl

theorem reportPassage_gate (s : State) : (reportPassage s).gate = s.gate := by
  obtain ⟨r, k, j, a, l, q, h⟩ := reportPassage_changes s
  rw [h]

theorem freePassageAsserted_of_running {s : State} {e : Latched} {later : List Latched} (hrun : running s = true)
    (h : s.gate.freePassage.latched = e :: later) (hlevel : e.level = true) :
    freePassageAsserted s = if e.early then freeTaken s later else takeAsserted (freeTaken s later) := by
  unfold freePassageAsserted
  rw [Input.take_of_cons h hlevel]
  exact if_pos hrun

theorem freePassageReleased_of_running {s : State} {e : Latched} {later : List Latched} (hrun : running s = true)
    (h : s.gate.freePassage.latched = e :: later) (hlevel : e.level = false) :
    freePassageReleased s = if e.early then freeTaken s later else takeReleased (freeTaken s later) := by
  unfold freePassageReleased
  rw [Input.take_of_cons h hlevel]
  exact if_pos hrun

theorem freePassageAsserted_of_unconfigured {s : State} {e : Latched} {later : List Latched} (hrun : unconfiguredMain s = true)
    (h : s.gate.freePassage.latched = e :: later) (hlevel : e.level = true) :
    freePassageAsserted s = unconfiguredCycle true (freeTaken s later) := by
  unfold freePassageAsserted
  rw [Input.take_of_cons h hlevel]
  exact (if_neg (ne_true_of_eq_false (running_of_unconfigured hrun))).trans (if_pos hrun)

theorem freePassageReleased_of_unconfigured {s : State} {e : Latched} {later : List Latched} (hrun : unconfiguredMain s = true)
    (h : s.gate.freePassage.latched = e :: later) (hlevel : e.level = false) :
    freePassageReleased s = unconfiguredCycle false (freeTaken s later) := by
  unfold freePassageReleased
  rw [Input.take_of_cons h hlevel]
  exact (if_neg (ne_true_of_eq_false (running_of_unconfigured hrun))).trans (if_pos hrun)

theorem freePassageAsserted_at_first_level {s : State} (hrun : unconfiguredMain s = true) (h : s.gate.freePassage.latched = [])
    (hlevel : s.gate.freePassage.accepted = some true) : freePassageAsserted s = unconfiguredCycle true s := by
  have hnone : s.gate.freePassage.take true = none := by
    unfold Input.take
    rw [h]
  unfold freePassageAsserted
  rw [hnone]
  exact if_pos (by rw [hrun, h, freePassageOn_of hlevel]; rfl)

theorem takeAsserted_of_other {s : State} (h : s.gate.cycle = .off ∨ s.gate.cycle = .free) : takeAsserted s = s := by
  unfold takeAsserted
  obtain h | h := h <;> rw [h]

theorem takeAsserted_of_released {s : State} (h : s.gate.cycle = .released) :
    takeAsserted s = testHead (reportPassage (enterCycle .free s)) := by
  unfold takeAsserted
  rw [h]

theorem takeAsserted_of_standing {s : State} (hoff : s.gate.cycle ≠ .off) (hfree : s.gate.cycle ≠ .free)
    (hreleased : s.gate.cycle ≠ .released) : takeAsserted s = testHead (enterCycle .free s) := by
  unfold takeAsserted
  cases hc : s.gate.cycle
  case off => exact absurd hc hoff
  case free => exact absurd hc hfree
  case released => exact absurd hc hreleased
  all_goals rfl

theorem testHead_outputs {s t : State} (h : t.gate = s.gate) : releaseOutput (testHead t) = releaseOutput s ∧
    alarmOutput (testHead t) = alarmOutput s := by
  obtain ⟨w, k, ht⟩ := testHead_changes t
  rw [ht, releaseOutput, alarmOutput]
  dsimp only
  rw [h]
  exact ⟨rfl, rfl⟩

/-- R79: an assertion taken outside OFF and FREE, with the passage of RELEASED reported. -/
theorem freePassageAsserted_opens {s : State} {later : List Latched} (hrun : running s = true)
    (hlatched : s.gate.freePassage.latched = { level := true, early := false } :: later) (hoff : s.gate.cycle ≠ .off)
    (hfree : s.gate.cycle ≠ .free) : ∃ t, freePassageAsserted s = testHead t ∧
      t.gate = (enterCycle .free (freeTaken s later)).gate ∧
      (s.gate.cycle = .released → t = reportPassage (enterCycle .free (freeTaken s later))) ∧
      (s.gate.cycle ≠ .released ∨ s.pendingPunch = none → t = enterCycle .free (freeTaken s later)) := by
  have htake := freePassageAsserted_of_running hrun hlatched rfl
  by_cases hreleased : s.gate.cycle = .released
  · refine ⟨_, htake.trans (takeAsserted_of_released (s := freeTaken s later) hreleased), reportPassage_gate _, fun _ => rfl, fun h => ?_⟩
    exact reportPassage_of_none (s := enterCycle .free (freeTaken s later)) (h.resolve_left fun h => h hreleased)
  · exact ⟨_, htake.trans (takeAsserted_of_standing (s := freeTaken s later) hoff hfree hreleased), rfl,
      fun h => absurd h hreleased, fun _ => rfl⟩

theorem takeReleased_of_free {s : State} (h : s.gate.cycle = .free) :
    takeReleased s = if doorOpen s then enterPassing s else enterDeciding .idle s := if_pos h

/-- Settles O41: events without effect, the first level of an UNCONFIGURED station, assertions and releases. -/
theorem freePassageOpensTheGate : Obligations.FreePassageOpensTheGate := by
  refine ⟨fun s e later hrun hlatched => ⟨fun hlevel hother => ?_, fun hlevel hother => ?_⟩, fun s hrun hnone hlevel => ?_,
    fun s later => ⟨fun hlatched => ⟨fun hrun hoff hfree => ?_, fun hrun => ?_⟩,
      fun hlatched => ⟨fun hrun hfree hc hd => ?_, fun hrun hfree hclosed => ?_, fun hrun => ?_⟩⟩⟩
  · refine congrArg Host.Outcome.next ((freePassageAsserted_of_running hrun hlatched hlevel).trans ?_)
    by_cases hearly : e.early = true
    · exact if_pos hearly
    · exact (if_neg hearly).trans (takeAsserted_of_other (s := freeTaken s later) (hother.resolve_left hearly))
  · refine congrArg Host.Outcome.next ((freePassageReleased_of_running hrun hlatched hlevel).trans ?_)
    by_cases hearly : e.early = true
    · exact if_pos hearly
    · exact (if_neg hearly).trans (if_neg (hother.resolve_left hearly))
  · exact congrArg Host.Outcome.next (freePassageAsserted_at_first_level hrun hnone hlevel)
  · obtain ⟨t, ht, hgate, hreleased, hother⟩ := freePassageAsserted_opens hrun hlatched hoff hfree
    obtain ⟨hrelease, halarm⟩ := testHead_outputs hgate
    refine ⟨t, congrArg Host.Outcome.next ht, hrelease, halarm, hgate, fun hcycle p hp hstamped => ?_,
      fun h => (hother h).trans (by rw [hgate]; rfl)⟩
    obtain ⟨-, hreported⟩ := reportPassage_reported (s := s) (u := enterCycle .free (freeTaken s later)) rfl
      (panelRuns_of_running s hrun) (fun q hq => Option.some.inj (hp.symm.trans hq) ▸ hstamped)
    rw [← hreleased hcycle] at hreported
    obtain ⟨hpending, -, hpassage, hpunch⟩ := hreported
    exact ⟨hpending, hpassage p hp, fun stamp => hpunch p stamp hp⟩
  · exact congrArg Host.Outcome.next (freePassageAsserted_of_unconfigured hrun hlatched rfl)
  · have hrelease := (freePassageReleased_of_running hrun hlatched rfl).trans (takeReleased_of_free (s := freeTaken s later) hfree)
    rw [doorOpen_eq_true (s := freeTaken s later) hc hd] at hrelease
    exact congrArg Host.Outcome.next hrelease
  · have hrelease := (freePassageReleased_of_running hrun hlatched rfl).trans (takeReleased_of_free (s := freeTaken s later) hfree)
    rw [doorOpen_eq_false (s := freeTaken s later) hclosed] at hrelease
    exact congrArg Host.Outcome.next hrelease
  · exact congrArg Host.Outcome.next (freePassageReleased_of_unconfigured hrun hlatched rfl)

end Sys2Proof.Machine

/-! PROOFS. The waiting queue's head: when it is decided, what is decided, and an admission (R51 to R57, R69, R80, R81). -/

namespace Sys2Proof.Machine

/-! ### The decision -/

theorem isolated_iff (s : State) : isolated s = true ↔
    s.starts.run = .configured ∧ 1 ≤ s.settings.expectedPeers ∧ ∀ p ∈ s.peers.entries, p.role = .gate → p.state = .silent := by
  have hlive (p : Peer) : (p.role == .gate && p.state == .live) = false ↔ (p.role = .gate → p.state = .silent) := by
    cases p.role <;> cases p.state <;> decide
  rw [isolated, Bool.and_eq_true, Bool.and_eq_true, beq_iff_eq, decide_eq_true_eq, Bool.not_eq_true', List.any_eq_false, and_assoc]
  simp only [Bool.not_eq_true, hlive]

theorem freePassageOn_iff (s : State) : freePassageOn s = true ↔ s.gate.freePassage.accepted = some true := by
  rw [freePassageOn, beq_iff_eq]

theorem policyNow_of_freePassage {s : State} (h : freePassageOn s = true) : policyNow s = .off := if_pos h

theorem policyNow_of_closed {s : State} (h : freePassageOn s = false) :
    (s.settings.passback = .hard → s.settings.degrade = true → isolated s = true → policyNow s = .soft) ∧
      (s.settings.passback = .hard → (s.settings.degrade = false ∨ isolated s = false) → policyNow s = .hard) ∧
      (s.settings.passback = .soft → policyNow s = .soft) ∧ (s.settings.passback = .off → policyNow s = .off) := by
  unfold policyNow effectivePolicy
  rw [if_neg (ne_true_of_eq_false h)]
  refine ⟨fun hp hd hi => by rw [hp, hd, hi]; rfl, fun hp hkept => ?_, fun hp => by rw [hp], fun hp => by rw [hp]⟩
  rw [hp]
  refine if_neg ?_
  obtain h | h := hkept <;> simp [h]

theorem decisionOf_of_clockSet {s : State} {w : WaitEntry} {x : Record} (hset : s.clock.isSet = true)
    (hx : s.record w.badge = some x) : decisionOf s w = decideRecord (policyNow s) (readerDirection w.reader) x := by
  unfold decisionOf decide_
  rw [hset, hx]
  rfl

/-- Settles O31: the policy, then the decision by the first step that applies. -/
theorem decisionTable : Obligations.DecisionTable := by
  intro s w policy
  refine ⟨isolated_iff s, freePassageOn_iff s, policyNow_of_freePassage, policyNow_of_closed, fun hset hr => ?_, fun hset hr => ?_,
    ?_⟩
  · unfold decisionOf decide_
    rw [hset, hr]
    rfl
  · unfold decisionOf decide_
    rw [hset, hr]
    rfl
  · rintro hset rfl
    refine ⟨fun hnone => ?_, fun x hx => ?_⟩
    · unfold decisionOf decide_
      rw [hset, hnone]
      rfl
    · rw [decisionOf_of_clockSet hset hx]
      unfold decideRecord
      refine ⟨fun hr hs => ?_, fun hr hs => ?_, fun hr hs hp => ?_, fun hr hs hp => ?_, fun hr hp => ?_, fun hr hp => ?_⟩
      · rw [hr, hs]; rfl
      · rw [hr, hs]; rfl
      · rw [hr, hs, hp]; rfl
      · rw [hr, hs, hp]; rfl
      · rw [hr, hp]; cases x.status <;> rfl
      · rw [hr, hp]; cases x.status <;> rfl

/-! ### When the head is decided -/

theorem testHead_of_no_decision {s : State} (h : s.waiting = [] ∨ running s = false ∨ (s.gate.cycle ≠ .idle ∧ s.gate.cycle ≠ .free)) :
    testHead s = s ∧ decideHead s = s := by
  unfold decideHead testHead
  cases hw : s.waiting with
  | nil => exact ⟨rfl, rfl⟩
  | cons w rest =>
    have hstop : (running s && s.gate.cycle.decides) = false := by
      rw [← Bool.not_eq_true, Bool.and_eq_true, Cycle.decides_iff]
      rintro ⟨hrun, hcycle⟩
      obtain h | h | ⟨hidle, hfree⟩ := h
      · exact nomatch h.symm.trans hw
      · exact nomatch h.symm.trans hrun
      · exact hcycle.elim hidle hfree
    have hmay : mayDecide s = false := by rw [mayDecide, hstop]; rfl
    have htest : ¬(running s && s.gate.cycle.decides && decide (txSpace s = 0) && !w.held) = true := by
      rw [hstop, Bool.false_and, Bool.false_and]
      exact Bool.false_ne_true
    dsimp only
    rw [if_neg htest, if_neg (ne_true_of_eq_false hmay)]
    exact ⟨rfl, rfl⟩

theorem txSpace_eq_zero_iff (s : State) : txSpace s = 0 ↔ 16 ≤ s.line.tx.length + s.line.reserved := by
  have h := one_le_txSpace_iff s
  omega

theorem testHead_of_space {s : State} (h : s.line.tx.length + s.line.reserved < 16) : testHead s = s := by
  have hspace : decide (txSpace s = 0) = false := decide_eq_false fun h0 => absurd ((txSpace_eq_zero_iff s).1 h0) (not_le.2 h)
  unfold testHead
  split
  · rfl
  · exact if_neg (by rw [hspace]; simp)

/-- R146: a head that finds no transmit space is held once. -/
theorem testHead_of_full {s : State} {w : WaitEntry} {rest : List WaitEntry} (hrun : running s = true)
    (hcycle : s.gate.cycle = .idle ∨ s.gate.cycle = .free) (hfull : 16 ≤ s.line.tx.length + s.line.reserved)
    (hw : s.waiting = w :: rest) : testHead s =
      if w.held then s else bump .decisionHeld { s with waiting := { w with held := true } :: rest } := by
  unfold testHead
  rw [hw]
  dsimp only
  rw [hrun, (Cycle.decides_iff _).2 hcycle, decide_eq_true ((txSpace_eq_zero_iff s).2 hfull)]
  cases w.held <;> rfl

theorem decideHead_of_full {s : State} (hfull : 16 ≤ s.line.tx.length + s.line.reserved) : decideHead s = testHead s := by
  unfold decideHead
  split
  · unfold testHead
    rename_i hw
    rw [hw]
  · exact if_neg fun h => absurd ((mayDecide_iff s).1 h).2.2 (not_lt.2 hfull)

/-! ### An admission -/

/-- R55, R56: a state in which the reader shows an admission made in an earlier state. -/
def shows (s a : State) (r : Reader) : Prop :=
  indicated s a r true ∧ (a.channel r).suppression = (s.channel r).suppression ∧ a.now = s.now

theorem showResult_indicate (r : Reader) (text : List Byte) {v : State} (hruns : panelRuns v = true) :
    ∃ e x, showResult text (indicate r true v) =
      { v with panel := v.panel.openOverlay v.now 3000 text, entryChannel := e, exitChannel := x } ∧
      indicated v { v with entryChannel := e, exitChannel := x } r true ∧
      (State.channel { v with entryChannel := e, exitChannel := x } r).suppression = (v.channel r).suppression := by
  have hind := indicated_indicate v r true
  have hsup : ((indicate r true v).channel r).suppression = (v.channel r).suppression := by
    unfold indicate
    rw [channel_setChannel]
  obtain ⟨e, x, h⟩ := indicate_changes r true v
  rw [h] at hind hsup ⊢
  exact ⟨e, x, if_pos hruns, hind, hsup⟩

theorem openOverlay_messages (p : Panel) (now duration : Nat) (text : List Byte) :
    (p.openOverlay now duration text).messages = p.messages :=
  (Panel.setRow1_keeps _ text).2.2.2.2

/-- R47: the outcome of an admission enters the suppression list and leaves all else as it was shown. -/
theorem noteOutcome_of_shows {s z : State} {r : Reader} (badge : Nat) (h : shows s z r) :
    indicated s (noteOutcome r badge z) r true ∧ listed s (noteOutcome r badge z) r badge := by
  obtain ⟨hind, hsup, hnow⟩ := h
  refine ⟨?_, listed_of_suppress _ _ _ _ ?_⟩
  · unfold indicated noteOutcome
    rw [channel_setChannel]
    exact hind
  · unfold noteOutcome
    rw [channel_setChannel, hnow, hsup]

/-- R55, R56: an admission shown: the pending punch and the line of the admission, beside reader and panel. -/
theorem admission_shows {s : State} (r : Reader) (text : List Byte) (rest : List WaitEntry) (p : PendingPunch) (l : Line)
    (hrun : running s = true) : ∃ e x,
      showResult text (indicate r true { s with waiting := rest, pendingPunch := some p, line := l }) =
        { s with waiting := rest, pendingPunch := some p, line := l, panel := s.panel.openOverlay s.now 3000 text
                 entryChannel := e, exitChannel := x } ∧
      ∀ z : State, z.entryChannel = e → z.exitChannel = x → z.now = s.now → shows s z r := by
  obtain ⟨e, x, h, hind, hsup⟩ := showResult_indicate (v := { s with waiting := rest, pendingPunch := some p, line := l }) r text
    (panelRuns_of_running s hrun)
  refine ⟨e, x, h, fun z he hx hnow => ?_⟩
  have hchannel : z.channel r = State.channel { s with entryChannel := e, exitChannel := x } r := by
    cases r
    · exact he
    · exact hx
  refine ⟨?_, ?_, hnow⟩
  · unfold indicated
    rw [hchannel]
    cases r <;> exact hind
  · rw [hchannel]
    cases r <;> exact hsup

theorem startRelease_waits {s : State} (hidle : s.gate.cycle = .idle) (hc : s.settings.confirm = true) :
    startRelease s = { s with gate := releasedGate s } := by
  unfold startRelease
  rw [if_neg (by rw [hidle]; decide), if_pos hc]
  rfl

theorem startRelease_reports {s : State} (h : s.gate.cycle = .free ∨ (s.gate.cycle = .idle ∧ s.settings.confirm = false)) :
    startRelease s = reportPassage { s with gate := if s.gate.cycle = .free then s.gate else releasedGate s } := by
  unfold startRelease
  obtain h | ⟨hidle, hc⟩ := h
  · rw [if_pos h, if_pos h]
  · have hfree : s.gate.cycle ≠ .free := by rw [hidle]; decide
    rw [if_neg hfree, if_neg hfree, if_neg (by rw [hc]; decide)]
    rfl

/-- R55, R56: the admission of an entry as a pending punch, with the reservations given. -/
def admissionOf (w : WaitEntry) (p : PendingPunch) (text : List Byte) (s : State) : State :=
  noteOutcome w.reader w.badge (startRelease (showResult text (indicate w.reader true { s with pendingPunch := some p })))

/-- R69: at a gate with a door contact the admission waits for its passage. -/
theorem admissionOf_waits {s : State} (w : WaitEntry) (rest : List WaitEntry) (p : PendingPunch) (l : Line) (text : List Byte)
    (hrun : running s = true) (hidle : s.gate.cycle = .idle) (hc : s.settings.confirm = true) :
    ∃ t, testHead (admissionOf w p text { s with waiting := rest, line := l }) = t ∧ t.pendingPunch = some p ∧ t.line = l ∧
      t.gate = releasedGate s ∧ t.waiting = rest ∧ indicated s t w.reader true ∧ listed s t w.reader w.badge ∧
      overlaid s t text 3000 ∧
      t = { s with waiting := rest, pendingPunch := t.pendingPunch, line := t.line, gate := t.gate, panel := t.panel
                   entryChannel := t.entryChannel, exitChannel := t.exitChannel } := by
  obtain ⟨e, x, hshown, hshows⟩ := admission_shows w.reader text rest p l hrun
  unfold admissionOf
  rw [hshown, startRelease_waits (by exact hidle) (by exact hc)]
  obtain ⟨hind, hlist⟩ := noteOutcome_of_shows w.badge (hshows
    { s with waiting := rest, pendingPunch := some p, line := l, panel := s.panel.openOverlay s.now 3000 text
             entryChannel := e, exitChannel := x, gate := releasedGate s } rfl rfl rfl)
  obtain ⟨e', x', hnoted⟩ := noteOutcome_changes w.reader w.badge
    { s with waiting := rest, pendingPunch := some p, line := l, panel := s.panel.openOverlay s.now 3000 text
             entryChannel := e, exitChannel := x, gate := releasedGate s }
  rw [hnoted] at hind hlist
  exact ⟨_, (congrArg testHead hnoted).trans (testHead_of_not_decides _ rfl), rfl, rfl, rfl, rfl, hind, hlist,
    overlaid_openOverlay s text 3000 _ rfl, rfl⟩

/-- R80, R81: in FREE and without a door contact the passage of the admission is reported at once. -/
theorem admissionOf_reports {s : State} (w : WaitEntry) (rest : List WaitEntry) {p : PendingPunch} (n : Nat) (text : List Byte)
    (hrun : running s = true) (hstamped : p.stamped)
    (h : s.gate.cycle = .free ∨ (s.gate.cycle = .idle ∧ s.settings.confirm = false)) :
    ∃ t, admissionOf w p text { s with waiting := rest, line := { s.line with reserved := n } } = t ∧
      t.gate = (if s.gate.cycle = .free then s.gate else releasedGate s) ∧ indicated s t w.reader true ∧
      listed s t w.reader w.badge ∧
      (p.kind = .passage → overlaid s t text 3000 ∧
        wrote s t s.clock.stamp (some p.reader) (some p.badge) .passageNoPunch .none none ∧
        t = { s with waiting := rest, pendingPunch := none, line := { s.line with reserved := n }, gate := t.gate, panel := t.panel
                     entryChannel := t.entryChannel, exitChannel := t.exitChannel, journal := t.journal, counters := t.counters }) ∧
      ∀ stamp, p.kind = .punch → p.stamp = some stamp → committed s t p stamp (n - 1) ∧
        ((commitRoster p stamp s).2.message = none → overlaid s t text 3000) ∧
        t = { s with waiting := rest, pendingPunch := none, line := t.line, gate := t.gate, panel := t.panel
                     entryChannel := t.entryChannel, exitChannel := t.exitChannel, roster := t.roster
                     journal := t.journal, counters := t.counters } := by
  obtain ⟨e, x, hshown, hshows⟩ := admission_shows w.reader text rest p { s.line with reserved := n } hrun
  unfold admissionOf
  rw [hshown]
  generalize ha : { s with waiting := rest, pendingPunch := some p, line := { s.line with reserved := n }
                           panel := s.panel.openOverlay s.now 3000 text, entryChannel := e, exitChannel := x } = a
  have hpending : a.pendingPunch = some p := by rw [← ha]
  rw [startRelease_reports (s := a) (by rw [← ha]; exact h)]
  obtain ⟨hgate, -, -, hpassage, hpunch⟩ := reportPassage_reported (s := a)
    (u := { a with gate := if a.gate.cycle = .free then a.gate else releasedGate a }) rfl
    (by rw [← ha]; exact panelRuns_of_running s hrun) (fun q hq => Option.some.inj (hpending.symm.trans hq) ▸ hstamped)
  generalize reportPassage { a with gate := if a.gate.cycle = .free then a.gate else releasedGate a } = z at hgate hpassage hpunch
  have hgate' : z.gate = if s.gate.cycle = .free then s.gate else releasedGate s := by rw [hgate, ← ha]; rfl
  have hover : z.panel = a.panel → overlaid s z text 3000 := fun h => overlaid_openOverlay s text 3000 z (h.trans (by rw [← ha]))
  have hadmitted : overlaid s a text 3000 := overlaid_openOverlay s text 3000 a (by rw [← ha])
  obtain ⟨e', x', hnoted⟩ := noteOutcome_changes w.reader w.badge z
  have hsignal : z.entryChannel = e → z.exitChannel = x → z.now = s.now →
      indicated s (noteOutcome w.reader w.badge z) w.reader true ∧ listed s (noteOutcome w.reader w.badge z) w.reader w.badge :=
    fun he hx hnow => noteOutcome_of_shows w.badge (hshows z he hx hnow)
  rw [hnoted] at hsignal ⊢
  cases hkind : p.kind with
  | passage =>
    obtain ⟨hw, hz⟩ := hpassage p hpending hkind
    obtain ⟨hind, hlist⟩ := hsignal (by rw [hz, ← ha]) (by rw [hz, ← ha]) (by rw [hz, ← ha]; rfl)
    refine ⟨_, rfl, hgate', hind, hlist, fun _ => ⟨hover (by rw [hz]), ?_, ?_⟩, nofun⟩
    · rw [← ha] at hw
      exact hw
    · rw [hz, ← ha]
  | punch =>
    obtain ⟨stamp, hstamp⟩ := Option.isSome_iff_exists.1 (hstamped hkind)
    obtain ⟨hcommitted, hpanel, hz⟩ := hpunch p stamp hpending hkind hstamp
    obtain ⟨hind, hlist⟩ := hsignal (by rw [hz, ← ha]) (by rw [hz, ← ha]) (by rw [hz, ← ha]; rfl)
    refine ⟨_, rfl, hgate', hind, hlist, nofun, fun stamp' _ hs => ?_⟩
    obtain rfl := Option.some.inj (hstamp.symm.trans hs)
    have hinfo : (commitRoster p stamp a).2 = (commitRoster p stamp s).2 :=
      (commitRoster_congr p stamp s a (by rw [← ha]) (by rw [← ha])).2
    have hreserved : a.line.reserved = n := by rw [← ha]
    rw [hreserved] at hcommitted
    have hseen : committed s z p stamp (n - 1) := committed_congr hcommitted (by rw [← ha]) (by rw [← ha]) (by rw [← ha])
      (by rw [← ha]) (by rw [← ha]) (by rw [← ha]) (by rw [← ha]; exact openOverlay_messages ..)
      (fun text' d h => overlaid_over hadmitted (by rw [← ha]; rfl) h)
    refine ⟨hseen, fun hnone => hover (hpanel (hinfo ▸ hnone)), ?_⟩
    rw [hz, ← ha]

/-- Settles O33: the tests of the head, then the admission of a punch and of a passage, that waits or is reported at once. -/
theorem admissionReleasesTheGate : Obligations.AdmissionReleasesTheGate := by
  refine ⟨fun s => ⟨fun h => ?_, testHead_of_space, fun hrun hcycle hfull => ⟨?_, fun w rest hw => ⟨fun hheld => ?_, fun hheld => ?_⟩⟩⟩,
    fun s w rest g hrun hw hspace hg => ⟨fun soft unpaired presence hdecision p text hp htext => ?_, fun hdecision p hp => ?_⟩⟩
  · obtain ⟨htest, hdecide⟩ := testHead_of_no_decision h
    exact ⟨htest, congrArg Host.Outcome.next hdecide⟩
  · exact congrArg Host.Outcome.next (decideHead_of_full hfull)
  · rw [testHead_of_full hrun hcycle hfull hw, if_pos hheld]
  · rw [testHead_of_full hrun hcycle hfull hw, if_neg (ne_true_of_eq_false hheld)]
  · have hadmit (hmay : mayDecide s = true) : exec .decideHead s = .next (testHead (admissionOf w p text
        { s with waiting := rest, line := { s.line with reserved := s.line.reserved + 1 } })) := by
      have hadmission : text = admissionText (readerDirection w.reader) s.clock.stamp := by
        rw [htext]
        unfold admissionText
        cases w.reader <;> rfl
      rw [exec_decideHead_of_mayDecide s w rest hw hmay, hdecision, hp, hadmission]
      rfl
    refine ⟨fun hidle hc => ?_, fun h => ?_⟩
    · have hexec := hadmit ((mayDecide_iff s).2 ⟨hrun, .inl hidle, hspace⟩)
      obtain ⟨t, ht, hpending, hline, hgate, hwaiting, hind, hlist, hover, hframe⟩ := admissionOf_waits w rest p
        { s.line with reserved := s.line.reserved + 1 } text hrun hidle hc
      rw [ht] at hexec
      exact ⟨t, hexec, hpending, hline, hgate.trans hg.symm, hwaiting, hind, hlist, hover, hframe⟩
    · have hexec := hadmit ((mayDecide_iff s).2 ⟨hrun, h.symm.imp And.left id, hspace⟩)
      obtain ⟨t, ht, hgate, hind, hlist, -, hpunch⟩ := admissionOf_reports w rest (p := p) (s.line.reserved + 1) text hrun
        (by rw [hp]; exact fun _ => rfl) h
      obtain ⟨hcommitted, hover, hframe⟩ := hpunch s.clock.stamp (by rw [hp]) (by rw [hp])
      rw [ht] at hexec
      exact ⟨t, hexec, by rw [hgate, hg]; rfl, hind, hlist, hcommitted, hover, hframe⟩
  · have hadmit (hmay : mayDecide s = true) : exec .decideHead s = .next (testHead (admissionOf w p
        (rowText (textBytes "EXIT NO TIME")) { s with waiting := rest, line := { s.line with reserved := s.line.reserved } })) := by
      rw [exec_decideHead_of_mayDecide s w rest hw hmay, hdecision, hp]
      rfl
    refine ⟨fun hidle hc => ?_, fun h => ?_⟩
    · have hexec := hadmit ((mayDecide_iff s).2 ⟨hrun, .inl hidle, hspace⟩)
      obtain ⟨t, ht, hpending, hline, hgate, hwaiting, hind, hlist, hover, hframe⟩ := admissionOf_waits w rest p
        { s.line with reserved := s.line.reserved } (rowText (textBytes "EXIT NO TIME")) hrun hidle hc
      rw [ht] at hexec
      refine ⟨t, hexec, hpending, hgate.trans hg.symm, hind, hlist, hover, ?_⟩
      rw [hline] at hframe
      exact hframe
    · have hexec := hadmit ((mayDecide_iff s).2 ⟨hrun, h.symm.imp And.left id, hspace⟩)
      obtain ⟨t, ht, hgate, hind, hlist, hpassage, -⟩ := admissionOf_reports w rest (p := p) s.line.reserved
        (rowText (textBytes "EXIT NO TIME")) hrun (by rw [hp]; exact nofun) h
      obtain ⟨hover, hwrote, hframe⟩ := hpassage (by rw [hp])
      rw [ht] at hexec
      rw [hp] at hwrote
      exact ⟨t, hexec, by rw [hgate, hg]; rfl, hind, hlist, hover, hwrote, hframe⟩

end Sys2Proof.Machine

/-! PROOFS. The line's time: start bits, character times, the attempts of the sender and their collisions (R140, R147, R148). -/

namespace Sys2Proof.Machine

theorem majority_eq_false (c : BitCell) : majority c = false ↔
    (c.s7 = false ∧ c.s8 = false) ∨ (c.s7 = false ∧ c.s9 = false) ∨ (c.s8 = false ∧ c.s9 = false) := by
  unfold majority
  cases c.s7 <;> cases c.s8 <;> cases c.s9 <;> decide

theorem majority_eq_true (c : BitCell) : majority c = true ↔
    (c.s7 = true ∧ c.s8 = true) ∨ (c.s7 = true ∧ c.s9 = true) ∨ (c.s8 = true ∧ c.s9 = true) := by
  unfold majority
  cases c.s7 <;> cases c.s8 <;> cases c.s9 <;> decide

/-! ### Frames that are given up -/

/-- R154: a reply that is given up is counted. -/
def countGivenUp (p : TxPayload) (s : State) : State :=
  match p with
  | .reply _ => bump .replyDropped s
  | .punch _ => s
  | .beacon => s
  | .ring _ => s

theorem noteGivenUp_eq (p : TxPayload) (s : State) : noteGivenUp p s =
    { countGivenUp p s with journal := journalMarked p .lost s.journal, restart := restartAfter p s.restart } := by
  cases p with
  | reply r => exact noteSent_eq (.reply r) (bump .replyDropped s)
  | punch n => rfl
  | beacon => rfl
  | ring r => rfl

theorem countGivenUp_counter (p : TxPayload) (s : State) :
    (∀ r, p = .reply r → (countGivenUp p s).counter .replyDropped = min 65535 (s.counter .replyDropped + 1)) ∧
      ((∀ r, p ≠ .reply r) → (countGivenUp p s).counter .replyDropped = s.counter .replyDropped) ∧
      (∀ k, k ≠ .replyDropped → (countGivenUp p s).counter k = s.counter k) ∧
      ∃ k, countGivenUp p s = { s with counters := k } := by
  cases p with
  | reply r =>
    exact ⟨fun _ _ => counter_bump_self _ _, fun h => absurd rfl (h r), fun k hk => (counter_bump ..).trans (if_neg (Ne.symm hk)), _, rfl⟩
  | punch n => exact ⟨nofun, fun _ => rfl, fun _ _ => rfl, _, rfl⟩
  | beacon => exact ⟨nofun, fun _ => rfl, fun _ _ => rfl, _, rfl⟩
  | ring r => exact ⟨nofun, fun _ => rfl, fun _ _ => rfl, _, rfl⟩

/-! ### Collisions -/

/-- R148: a collision before the sixteenth attempt draws a backoff. -/
theorem collide_draws {s : State} {p : TxPayload} {n : Nat} {later : List TxFrame}
    (h : s.line.tx = { payload := p, attempts := n } :: later) (hn : n ≠ 16) : collide s =
      bump .collision { s with line := { s.line with attempt := none, backoff := s.line.generator.toNat % 2 ^ min n 6 } } := by
  unfold collide
  rw [h]
  exact if_neg hn

/-- R149: what is left once the sixteenth attempt collided, before the queue of reads is tested. -/
def givenUp (s t : State) (p : TxPayload) (later : List TxFrame) : Prop :=
  t.line = { s.line with tx := later, attempt := none, backoff := 0 } ∧
    t.counter .collision = min 65535 (s.counter .collision + 1) ∧
    t.counter .frameGiveUp = min 65535 (s.counter .frameGiveUp + 1) ∧
    (∀ reply, p = .reply reply → t.counter .replyDropped = min 65535 (s.counter .replyDropped + 1)) ∧
    ((∀ reply, p ≠ .reply reply) → t.counter .replyDropped = s.counter .replyDropped) ∧
    (∀ k, k ≠ .collision → k ≠ .frameGiveUp → k ≠ .replyDropped → t.counter k = s.counter k) ∧
    t.journal = journalMarked p .lost s.journal ∧ t.restart = restartAfter p s.restart ∧
    t = { s with line := t.line, journal := t.journal, restart := t.restart, counters := t.counters }

theorem collide_gives_up {s : State} {p : TxPayload} {later : List TxFrame}
    (h : s.line.tx = { payload := p, attempts := 16 } :: later) : ∃ t, collide s = testHead t ∧ givenUp s t p later := by
  have hcollide : collide s = testHead (noteGivenUp p (bump .frameGiveUp
      (popHead (bump .collision { s with line := { s.line with attempt := none } })))) := by
    unfold collide
    rw [h]
    rfl
  refine ⟨_, hcollide, ?_⟩
  generalize hu : bump .frameGiveUp (popHead (bump .collision { s with line := { s.line with attempt := none } })) = u
  have hcollision : u.counter .collision = min 65535 (s.counter .collision + 1) := by
    rw [← hu, counter_bump, if_neg (by decide)]
    exact counter_bump_self ..
  have hgiven : u.counter .frameGiveUp = min 65535 (s.counter .frameGiveUp + 1) := by
    rw [← hu, counter_bump_self]
    exact congrArg (fun n => min 65535 (n + 1)) ((counter_bump ..).trans (if_neg (by decide)))
  have hother (k : Counter) (hc : k ≠ .collision) (hg : k ≠ .frameGiveUp) : u.counter k = s.counter k := by
    rw [← hu, counter_bump, if_neg (Ne.symm hg)]
    exact (counter_bump ..).trans (if_neg (Ne.symm hc))
  have hline : u.line = { s.line with tx := later, attempt := none, backoff := 0 } := by
    rw [← hu]
    exact congrArg (fun l => ({ s.line with tx := l, attempt := none, backoff := 0 } : Line)) (congrArg List.tail h)
  have hframe : u = { s with line := u.line, counters := u.counters } := by rw [← hu]; rfl
  obtain ⟨hreply, hnone, hkept, k, hcounted⟩ := countGivenUp_counter p u
  rw [noteGivenUp_eq]
  refine ⟨?_, ?_, ?_, fun r hr => ?_, fun hno => ?_, fun k hc hg hr => ?_, ?_, ?_, ?_⟩
  · rw [hcounted]
    exact hline
  · exact (hkept _ (by decide)).trans hcollision
  · exact (hkept _ (by decide)).trans hgiven
  · exact (hreply r hr).trans (by rw [hother _ (by decide) (by decide)])
  · exact (hnone hno).trans (hother _ (by decide) (by decide))
  · exact (hkept k hr).trans (hother k hc hg)
  · rw [hframe]
  · rw [hframe]
  · rw [hcounted, hframe]

/-! ### Character times and attempts -/

theorem characterTimeEnd_of_running {s : State} (hrun : running s = true) : characterTimeEnd s =
    if s.line.attempt.isSome && !s.line.startSeen then
      collide { s with line := { s.line with generator := generatorStep s.line.generator, idle := idleAfter s.line
                                             startSeen := false, charSeen := false } }
    else { s with line := { s.line with generator := generatorStep s.line.generator, idle := idleAfter s.line
                                        startSeen := false, charSeen := false } } := if_pos hrun

/-- Settles O49: start bits, character times outside an attempt and in one, and the beginning of an attempt. -/
theorem lineKeepsItsTime : Obligations.LineKeepsItsTime := by
  intro s hrun
  refine ⟨fun cell hreceiving => ⟨fun hlow => ?_, fun hhigh => ?_⟩, fun hnone => ?_, fun a u hattempt hu => ⟨fun hseen => ?_,
    fun hunseen p n later htx => ⟨fun hn => ?_, fun hn => ?_⟩⟩, fun p n later htx hnone => ⟨fun hidle => ?_, fun hidle => ?_⟩⟩
  · exact congrArg Host.Outcome.next (if_pos (by rw [hrun, hreceiving, (majority_eq_false cell).2 hlow]; rfl))
  · exact congrArg Host.Outcome.next (if_neg (by rw [(majority_eq_true cell).2 hhigh]; simp))
  · refine congrArg Host.Outcome.next ((characterTimeEnd_of_running hrun).trans ?_)
    rw [hnone, if_neg (fun h => nomatch h), idleAfter, hnone, Option.isSome_none, Bool.or_false]
    rfl
  · refine congrArg Host.Outcome.next ((characterTimeEnd_of_running hrun).trans ?_)
    rw [hattempt, hseen, if_neg (fun h => nomatch h), hu, idleAfter, hseen]
    rfl
  · have hidle : idleAfter s.line = 0 := if_pos (by rw [hattempt]; simp)
    have hcollide : exec .characterTimeEnd s = .next (collide u) := by
      refine congrArg Host.Outcome.next ((characterTimeEnd_of_running hrun).trans ?_)
      rw [if_pos (by rw [hattempt, hunseen]; rfl), hidle, hu]
      rfl
    have htx' : u.line.tx = { payload := p, attempts := n } :: later := by rw [hu]; exact htx
    rw [hcollide, collide_draws htx' hn]
  · subst hn
    have hidle : idleAfter s.line = 0 := if_pos (by rw [hattempt]; simp)
    have hcollide : exec .characterTimeEnd s = .next (collide u) := by
      refine congrArg Host.Outcome.next ((characterTimeEnd_of_running hrun).trans ?_)
      rw [if_pos (by rw [hattempt, hunseen]; rfl), hidle, hu]
      rfl
    have htx' : u.line.tx = { payload := p, attempts := 16 } :: later := by rw [hu]; exact htx
    obtain ⟨t, ht, hline, hgiven⟩ := collide_gives_up htx'
    rw [ht] at hcollide
    rw [hu] at hgiven
    exact ⟨t, hcollide, hline, hgiven⟩
  · refine congrArg Host.Outcome.next ?_
    unfold sendAttemptStart
    rw [htx]
    exact if_pos (by rw [mayAttempt, hrun, hnone]; exact decide_eq_true hidle)
  · refine congrArg Host.Outcome.next ?_
    unfold sendAttemptStart
    rw [htx]
    have hearly : decide (Config.idleBase + s.line.backoff ≤ s.line.idle) = false := decide_eq_false (not_le.2 hidle)
    exact if_neg (by rw [mayAttempt, hearly]; simp)

end Sys2Proof.Machine

/-! PROOFS. Frames: their check and their lengths, the assembler, and the tests of a whole frame (R141 to R144, R151). -/

namespace Sys2Proof.Machine

/-! ### The check -/

theorem crcBit_eq (reg : BitVec 16) (bit : Bool) :
    crcBit reg bit = if reg.getLsbD 15 ^^ bit then (reg <<< 1) ^^^ 0x1021#16 else reg <<< 1 := by
  have hmsb : reg.msb = reg.getLsbD 15 := BitVec.msb_eq_getLsbD_last reg
  rw [crcBit, hmsb]

theorem crcByte_eq (reg : BitVec 16) (b : Byte) : crcByte reg b = (List.range 8).foldl
    (fun (r : BitVec 16) i => if r.getLsbD 15 ^^ b.getLsbD (7 - i) then (r <<< 1) ^^^ 0x1021#16 else r <<< 1) reg := by
  have hbits : [7, 6, 5, 4, 3, 2, 1, 0] = (List.range 8).map (fun i => 7 - i) := rfl
  unfold crcByte
  rw [hbits, List.foldl_map]
  simp only [crcBit_eq]

theorem crc_snoc (bytes : List Byte) (b : Byte) : crc (bytes ++ [b]) = (List.range 8).foldl
    (fun (r : BitVec 16) i => if r.getLsbD 15 ^^ b.getLsbD (7 - i) then (r <<< 1) ^^^ 0x1021#16 else r <<< 1) (crc bytes) := by
  rw [crc, crc, List.foldl_append, List.foldl_cons, List.foldl_nil, crcByte_eq]

theorem byteOf_mod (n : Nat) : byteOf (n % 256) = byteOf n := by
  unfold byteOf
  exact BitVec.eq_of_toNat_eq (by simp)

/-- R151: the head of a frame. -/
def frameHead (kind : FrameKind) (source dest : Nat) (body : List Byte) : List Byte :=
  [kind.code, byteOf body.length, byteOf source, byteOf dest]

theorem frameBytes_eq (kind : FrameKind) (source dest : Nat) (body : List Byte) : frameBytes kind source dest body =
    (frameHead kind source dest body ++ body) ++ crcBytes (frameHead kind source dest body ++ body) := rfl

theorem length_crcBytes (bytes : List Byte) : (crcBytes bytes).length = 2 := rfl

theorem length_frameBytes (kind : FrameKind) (source dest : Nat) (body : List Byte) :
    (frameBytes kind source dest body).length = body.length + 6 := by
  rw [frameBytes_eq, List.length_append, List.length_append, length_crcBytes]
  change 4 + body.length + 2 = body.length + 6
  omega

theorem frameBytes_covered (kind : FrameKind) (source dest : Nat) (body : List Byte) :
    (frameBytes kind source dest body).take ((frameBytes kind source dest body).length - 2) = frameHead kind source dest body ++ body ∧
      (frameBytes kind source dest body).drop ((frameBytes kind source dest body).length - 2) =
        crcBytes (frameHead kind source dest body ++ body) := by
  have hlength : (frameBytes kind source dest body).length - 2 = (frameHead kind source dest body ++ body).length := by
    rw [frameBytes_eq, List.length_append, length_crcBytes]
    omega
  rw [hlength, frameBytes_eq]
  exact ⟨List.take_left, List.drop_left⟩

theorem toNat_byteOf {n : Nat} (h : n < 256) : (byteOf n).toNat = n := by
  rw [byteOf, BitVec.toNat_ofNat]
  exact Nat.mod_eq_of_lt h

theorem frameBytes_head (kind : FrameKind) (source dest : Nat) (body : List Byte) :
    getByte (frameBytes kind source dest body) 0 = kind.code ∧ getByte (frameBytes kind source dest body) 1 = byteOf body.length ∧
      getByte (frameBytes kind source dest body) 2 = byteOf source ∧ getByte (frameBytes kind source dest body) 3 = byteOf dest :=
  ⟨rfl, rfl, rfl, rfl⟩

theorem lengthPermitted_iff (kind : FrameKind) (body : List Byte) : lengthPermitted kind body = true ↔
    (kind = .beacon ∧ body.length = 10) ∨ (kind = .ring ∧ body.length = 8) ∨
      (kind = .request ∧ 2 ≤ body.length ∧ body.length ≤ 56) ∨ (kind = .reply ∧ 3 ≤ body.length ∧ body.length ≤ 56) ∨
      (kind = .punch ∧ 12 ≤ body.length ∧
        body.length = 12 + (if (getByte body 5).getLsbD 1 then 6 else 0) + (if (getByte body 5).getLsbD 2 then 6 else 0) +
          (if (getByte body 5).getLsbD 3 then 34 else 0)) := by
  have hmax (n : Nat) : n ≤ Config.bodyMax ↔ n ≤ 56 := Iff.rfl
  cases kind <;> simp [lengthPermitted, hmax]

theorem frameKindOf_code (kind : FrameKind) : frameKindOf kind.code = some kind := by
  cases kind <;> rfl

theorem frameKindOf_none {b : Byte} (h : b ∉ [0x01#8, 0x03#8, 0x07#8, 0x0F#8, 0x1F#8]) : frameKindOf b = none := by
  simp only [List.mem_cons, List.not_mem_nil, or_false, not_or] at h
  obtain ⟨h1, h3, h7, hf, h1f⟩ := h
  unfold frameKindOf
  rw [if_neg h1, if_neg h3, if_neg h7, if_neg hf, if_neg h1f]

/-! ### The tests of a whole frame -/

theorem sortFrame_of_kind {bytes : List Byte} {kind : FrameKind} (body : List Byte) (s : State) (h : getByte bytes 0 = kind.code) :
    sortFrame bytes body s = if lengthPermitted kind body then
      if kind = .reply then s
      else bufferFrame { kind := kind, source := get bytes 2 1, destination := get bytes 3 1, body := body } s
    else bump .frameMalformed s := by
  unfold sortFrame
  rw [h, frameKindOf_code]

theorem bufferFrame_of_room {s : State} (f : RxFrame) (h : s.line.rx.length < 4) :
    bufferFrame f s = { s with line := { s.line with rx := s.line.rx ++ [f] } } := if_pos h

theorem bufferFrame_of_full {s : State} (f : RxFrame) (h : 4 ≤ s.line.rx.length) : bufferFrame f s = bump .receiveOverrun s :=
  if_neg (not_lt.2 h)

theorem frameTested_frameComplete (v : State) {bytes : List Byte} (h : 4 ≤ bytes.length) :
    frameTested v (frameComplete bytes false v) bytes := by
  rintro _ _ _ rfl rfl rfl
  unfold frameComplete
  rw [get_one bytes 2 (by omega), get_one bytes 3 (by omega), if_neg (by decide)]
  refine ⟨fun hbad => if_pos hbad, fun hgood => ?_⟩
  rw [if_neg (not_not.2 hgood)]
  refine ⟨fun hown => if_pos hown, fun hforeign hone hother => ?_, fun hforeign hdest => ?_⟩
  · rw [if_neg hforeign]
    exact if_pos ⟨hone, hother⟩
  · rw [if_neg hforeign, if_neg (by rintro ⟨hone, hother⟩; exact hdest.elim hone hother)]
    refine ⟨fun hunknown => ?_, fun kind hkind => ?_⟩
    · unfold sortFrame
      rw [frameKindOf_none hunknown]
    · rw [sortFrame_of_kind _ v hkind, get_one bytes 2 (by omega), get_one bytes 3 (by omega)]
      refine ⟨fun hlength => if_neg (ne_true_of_eq_false hlength), fun hlength => ?_⟩
      rw [if_pos hlength]
      refine ⟨fun hreply => if_pos hreply, fun hkept hroom => ?_, fun hkept hfull => ?_⟩
      · rw [if_neg hkept]
        exact bufferFrame_of_room _ hroom
      · rw [if_neg hkept]
        exact bufferFrame_of_full _ hfull

/-! ### The assembler -/

theorem extendFrame_of_long {bytes : List Byte} (own : Bool) (s : State) (hlength : bytes.length = 2)
    (hlong : 56 < (getByte bytes 1).toNat) : extendFrame bytes own s = bump .frameMalformed (setAssembly none s) := by
  unfold extendFrame
  rw [get_one bytes 1 (by omega)]
  exact if_pos ⟨hlength, hlong⟩

theorem extendFrame_of_whole {bytes : List Byte} (own : Bool) (s : State) (hlength : 2 < bytes.length)
    (hwhole : bytes.length = (getByte bytes 1).toNat + 6) : extendFrame bytes own s = frameComplete bytes own (setAssembly none s) := by
  unfold extendFrame
  rw [get_one bytes 1 (by omega), if_neg (by omega), if_pos ⟨by omega, hwhole⟩]

theorem extendFrame_of_part {bytes : List Byte} (own : Bool) (s : State)
    (h : bytes.length < 2 ∨ (bytes.length = 2 ∧ (getByte bytes 1).toNat ≤ 56) ∨
      (2 < bytes.length ∧ bytes.length ≠ (getByte bytes 1).toNat + 6)) :
    extendFrame bytes own s = setAssembly (some bytes) s := by
  unfold extendFrame
  by_cases hlength : bytes.length < 2
  · rw [if_neg (by omega), if_neg (by omega)]
  · have hmax : Config.bodyMax = 56 := rfl
    rw [get_one bytes 1 (by omega), if_neg (by omega), if_neg (by omega)]

theorem assemble_of_begun {s : State} {begun : List Byte} (data : Byte) (own : Bool) (h : s.line.assembly = some begun) :
    assemble data false own s = extendFrame (begun ++ [data]) own s := by
  unfold assemble
  rw [h]
  rfl

theorem assemble_marked_of_begun {s : State} {begun : List Byte} (data : Byte) (own : Bool) (h : s.line.assembly = some begun) :
    assemble data true own s = bump .frameTruncated (setAssembly (some [data]) s) := by
  unfold assemble
  rw [h]
  rfl

theorem assemble_of_hunt {s : State} (data : Byte) (mark own : Bool) (h : s.line.assembly = none) :
    assemble data mark own s = if mark then setAssembly (some [data]) s else s := by
  unfold assemble
  rw [h]

/-- R141: the characters of a frame from some place on take the assembler to the whole frame. -/
theorem foldl_assemble {bytes : List Byte} (s : State) (hwhole : bytes.length = (getByte bytes 1).toNat + 6)
    (hlong : (getByte bytes 1).toNat ≤ 56) (suffix : List Byte) : ∀ begun : List Byte, begun ≠ [] → suffix ≠ [] →
      begun ++ suffix = bytes → suffix.foldl (fun t b => assemble b false false t) (setAssembly (some begun) s) =
        frameComplete bytes false (setAssembly none s) := by
  induction suffix with
  | nil => exact fun _ _ h => absurd rfl h
  | cons d rest ih =>
    intro begun hbegun _ hbytes
    have hlength : begun.length + (rest.length + 1) = bytes.length := by
      rw [← hbytes, List.length_append, List.length_cons]
    have hpos : 0 < begun.length := List.length_pos_iff.2 hbegun
    have hextended : begun ++ [d] ++ rest = bytes := by rw [List.append_assoc]; exact hbytes
    have hbyte : getByte (begun ++ [d]) 1 = getByte bytes 1 := by
      unfold getByte
      rw [← hextended]
      exact (List.getD_append (begun ++ [d]) rest 0 1 (by rw [List.length_append, List.length_singleton]; omega)).symm
    have hone : (begun ++ [d]).length = begun.length + 1 := by rw [List.length_append, List.length_singleton]
    rw [List.foldl_cons, assemble_of_begun (s := setAssembly (some begun) s) d false rfl]
    cases rest with
    | nil =>
      rw [List.append_nil] at hextended
      rw [hextended]
      exact extendFrame_of_whole false (setAssembly (some begun) s) (by omega) hwhole
    | cons e rest =>
      rw [List.length_cons] at hlength
      rw [extendFrame_of_part false (setAssembly (some begun) s) (by rw [hbyte, hone]; omega)]
      exact ih (begun ++ [d]) (by simp) (by simp) hextended

end Sys2Proof.Machine

/-! PROOFS. A frame sent whole is heard whole (R141 to R144, R151). -/

namespace Sys2Proof.Machine

/-- R143, R144: a frame of another station, sent to all or to the hearer, joins the receive buffer. -/
theorem frameComplete_frameBytes {s : State} {kind : FrameKind} {source dest : Nat} {body : List Byte} (hkind : kind ≠ .reply)
    (hsource : source < 256) (hdest : dest < 256) (hforeign : source ≠ s.settings.station) (hto : dest = 0 ∨ dest = s.settings.station)
    (hpermitted : lengthPermitted kind body = true) (hroom : s.line.rx.length < 4) :
    frameComplete (frameBytes kind source dest body) false s =
      { s with line := { s.line with
        rx := s.line.rx ++ [{ kind := kind, source := source, destination := dest, body := body }] } } := by
  have hlength := length_frameBytes kind source dest body
  obtain ⟨hcovered, hcheck⟩ := frameBytes_covered kind source dest body
  obtain ⟨hcode, -, hsrc, hdst⟩ := frameBytes_head kind source dest body
  have htested := frameTested_frameComplete s (bytes := frameBytes kind source dest body) (by omega)
    ((frameHead kind source dest body) ++ body) source dest hcovered.symm (by rw [hsrc, toNat_byteOf hsource])
    (by rw [hdst, toNat_byteOf hdest])
  obtain ⟨-, hgood⟩ := htested
  obtain ⟨-, -, haddressed⟩ := hgood hcheck
  obtain ⟨-, hsorted⟩ := haddressed hforeign hto
  have hbody : (frameHead kind source dest body ++ body).drop 4 = body := rfl
  obtain ⟨-, hbuffered⟩ := hsorted kind hcode
  rw [hbody] at hbuffered
  exact (hbuffered hpermitted).2.1 hkind hroom

theorem setAssembly_self {s : State} (h : s.line.assembly = none) : setAssembly none s = s := by
  unfold setAssembly
  rw [← h]

/-- Settles O52: the check, the head, the lengths, and the hearing of a frame character by character. -/
theorem sentFramesAreHeard : Obligations.SentFramesAreHeard := by
  refine ⟨rfl, crc_snoc, fun kind source dest body bytes hbytes => ?_, lengthPermitted_iff, ?_⟩
  · have hhead : bytes = frameHead kind source dest body ++ body := by
      rw [hbytes]
      cases kind <;> rfl
    rw [frameBytes_eq, ← hhead]
    exact congrArg (bytes ++ [byteOf ((crc bytes).toNat / 256), ·]) (byteOf_mod _).symm
  · intro s kind source dest body hkind hsource hdest hforeign hto hpermitted hshort hhunt hroom head tail hbytes
    have hone : getByte (frameBytes kind source dest body) 1 = byteOf body.length := (frameBytes_head ..).2.1
    have hbodyLength : (getByte (frameBytes kind source dest body) 1).toNat = body.length := by
      rw [hone, toNat_byteOf (by omega)]
    have htail : tail ≠ [] := by
      rintro rfl
      have hlength := length_frameBytes kind source dest body
      rw [hbytes] at hlength
      simp at hlength
    rw [assemble_of_hunt head true false hhunt, if_pos rfl, foldl_assemble s (by rw [length_frameBytes, hbodyLength])
      (by rw [hbodyLength]; exact hshort) tail [head] (by simp) htail hbytes.symm, setAssembly_self hhunt]
    exact frameComplete_frameBytes hkind hsource hdest hforeign hto hpermitted hroom

end Sys2Proof.Machine

/-! PROOFS. Received characters: outside an own attempt, in one that is read back, and in one that collides (R140, R141, R148,
R149). -/

namespace Sys2Proof.Machine

theorem characterReceived_of_running {s u : State} {cells : CharCells} (hrun : running s = true) (hreceiving : s.line.receiving = true)
    (hu : u = { s with line := { s.line with receiving := false, idle := 0, charSeen := true } }) :
    (∀ data mark, receiveCells cells = .char data mark → characterReceived cells s = takeCharacter data mark u) ∧
      (receiveCells cells = .framingError → characterReceived cells s = takeFramingError u) := by
  unfold characterReceived
  rw [if_pos (by rw [hrun, hreceiving]; rfl), hu]
  exact ⟨fun data mark h => by rw [h], fun h => by rw [h]⟩

theorem takeCharacter_of_none {s : State} (data : Byte) (mark : Bool) (h : s.line.attempt = none) :
    takeCharacter data mark s = assemble data mark false s := by
  unfold takeCharacter
  rw [h]

theorem takeCharacter_of_attempt {s : State} {a : Attempt} (data : Byte) (mark : Bool) (h : s.line.attempt = some a) :
    takeCharacter data mark s = readBack a data mark (assemble data mark (a.matches data mark && a.last) s) := by
  unfold takeCharacter
  rw [h]

theorem takeFramingError_of_none {s : State} (h : s.line.attempt = none) :
    takeFramingError s = bump .lineFramingError (setAssembly none s) := by
  unfold takeFramingError
  rw [h]

theorem takeFramingError_of_attempt {s : State} {a : Attempt} (h : s.line.attempt = some a) :
    takeFramingError s = collide (bump .lineFramingError (setAssembly none s)) := by
  unfold takeFramingError
  rw [h]

/-! ### What the assembler counts -/

/-- R141 to R144: the counters that a character fed to the assembler can raise. -/
def frameCounters : List Counter := [.frameTruncated, .frameMalformed, .frameBadCheck, .duplicateHeard, .receiveOverrun]

theorem bump_counter_of_frame {c k : Counter} (s : State) (hc : c ∈ frameCounters) (hk : k ∉ frameCounters) :
    (bump c s).counter k = s.counter k :=
  (counter_bump ..).trans (if_neg (by rintro rfl; exact hk hc))

theorem sortFrame_counter (bytes body : List Byte) (s : State) {k : Counter} (hk : k ∉ frameCounters) :
    (sortFrame bytes body s).counter k = s.counter k := by
  unfold sortFrame bufferFrame
  split
  · exact bump_counter_of_frame _ (by decide) hk
  · split
    · split
      · rfl
      · split
        · rfl
        · exact bump_counter_of_frame _ (by decide) hk
    · exact bump_counter_of_frame _ (by decide) hk

theorem frameComplete_counter (bytes : List Byte) (own : Bool) (s : State) {k : Counter} (hk : k ∉ frameCounters) :
    (frameComplete bytes own s).counter k = s.counter k := by
  unfold frameComplete
  dsimp only
  split
  · rfl
  · split
    · exact bump_counter_of_frame _ (by decide) hk
    · split
      · exact bump_counter_of_frame _ (by decide) hk
      · split
        · rfl
        · exact sortFrame_counter _ _ _ hk

theorem assemble_counter (data : Byte) (mark own : Bool) (s : State) {k : Counter} (hk : k ∉ frameCounters) :
    (assemble data mark own s).counter k = s.counter k := by
  unfold assemble
  split
  · split <;> rfl
  · split
    · exact bump_counter_of_frame _ (by decide) hk
    · unfold extendFrame
      split
      · exact bump_counter_of_frame _ (by decide) hk
      · split
        · exact frameComplete_counter _ _ _ hk
        · rfl

/-! ### What the assembler leaves of the line -/

/-- R141: a state that differs by the assembler's work alone. -/
def assembled (s t : State) : Prop :=
  t = { s with line := { s.line with assembly := t.line.assembly, rx := t.line.rx }, counters := t.counters, peers := t.peers }

theorem assembled_sortFrame (bytes body : List Byte) (s : State) : assembled s (sortFrame bytes body s) := by
  unfold sortFrame bufferFrame
  split
  · rfl
  · split
    · split
      · rfl
      · split <;> rfl
    · rfl

theorem assembled_frameComplete (bytes : List Byte) (own : Bool) (s : State) :
    assembled s (frameComplete bytes own (setAssembly none s)) := by
  unfold frameComplete
  dsimp only
  split
  · rfl
  · split
    · rfl
    · split
      · rfl
      · split
        · rfl
        · have h := assembled_sortFrame bytes ((bytes.take (bytes.length - 2)).drop 4) (setAssembly none s)
          generalize sortFrame bytes ((bytes.take (bytes.length - 2)).drop 4) (setAssembly none s) = t at h
          unfold assembled at h ⊢
          exact h

theorem assembled_assemble (data : Byte) (mark own : Bool) (s : State) : assembled s (assemble data mark own s) := by
  unfold assemble
  split
  · split <;> rfl
  · split
    · rfl
    · unfold extendFrame
      split
      · rfl
      · split
        · exact assembled_frameComplete _ _ _
        · rfl

/-- Outside the completion of a frame the assembler leaves receive buffer and peer table. -/
theorem extendFrame_keeps {bytes : List Byte} (own : Bool) (s : State)
    (h : bytes.length < 2 ∨ bytes.length ≠ (getByte bytes 1).toNat + 6) :
    (extendFrame bytes own s).line.rx = s.line.rx ∧ (extendFrame bytes own s).peers = s.peers := by
  unfold extendFrame
  split
  · exact ⟨rfl, rfl⟩
  · split
    · rename_i hwhole
      rw [get_one bytes 1 (by omega)] at hwhole
      omega
    · exact ⟨rfl, rfl⟩

/-- R143: a frame with a wrong check leaves receive buffer and peer table. -/
theorem frameComplete_badCheck {bytes : List Byte} (s : State)
    (h : bytes.drop (bytes.length - 2) ≠ crcBytes (bytes.take (bytes.length - 2))) :
    frameComplete bytes false s = bump .frameBadCheck s := by
  unfold frameComplete
  rw [if_neg (by decide)]
  exact if_pos h

/-! ### An own attempt -/

/-- R148: an attempt on a frame of the station's, with the characters read back in the assembler. -/
structure Sends (s : State) (bytes : List Byte) (done : Nat) (body : List Byte) : Prop where
  attempt : s.line.attempt = some { bytes := bytes, done := done }
  frame : ∃ kind source dest, bytes = frameBytes kind source dest body
  short : body.length ≤ 56
  within : done < bytes.length
  assembly : 0 < done → s.line.assembly = some (bytes.take done)

theorem Sends.length {s : State} {bytes : List Byte} {done : Nat} {body : List Byte} (h : Sends s bytes done body) :
    bytes.length = body.length + 6 := by
  obtain ⟨kind, source, dest, hb⟩ := h.frame
  rw [hb, length_frameBytes]

theorem Sends.bodyLength {s : State} {bytes : List Byte} {done : Nat} {body : List Byte} (h : Sends s bytes done body) :
    (getByte bytes 1).toNat = body.length := by
  obtain ⟨kind, source, dest, hb⟩ := h.frame
  have hshort := h.short
  rw [hb, (frameBytes_head kind source dest body).2.1, toNat_byteOf (by omega)]

theorem Sends.check {s : State} {bytes : List Byte} {done : Nat} {body : List Byte} (h : Sends s bytes done body) :
    bytes.drop (bytes.length - 2) = crcBytes (bytes.take (bytes.length - 2)) := by
  obtain ⟨kind, source, dest, hb⟩ := h.frame
  obtain ⟨hcovered, hcheck⟩ := frameBytes_covered kind source dest body
  rw [hb, hcheck, hcovered]

theorem getByte_take_append {bytes : List Byte} {done : Nat} (d : Byte) (h : 1 < done) (hwithin : done ≤ bytes.length) :
    getByte (bytes.take done ++ [d]) 1 = getByte bytes 1 := by
  unfold getByte
  rw [List.getD_append _ _ _ _ (by rw [List.length_take]; omega)]
  simp [List.getD_eq_getElem?_getD, h]

theorem take_append_getByte {bytes : List Byte} {done : Nat} (h : done < bytes.length) :
    bytes.take done ++ [getByte bytes done] = bytes.take (done + 1) := by
  rw [getByte, List.getD_eq_getElem _ _ h, List.take_append_getElem]

/-- R148: a character read back that is not the last one. -/
theorem assemble_readBack_part {s : State} {bytes : List Byte} {done : Nat} {body : List Byte} (h : Sends s bytes done body)
    (hlast : bytes.length ≠ done + 1) : assemble (getByte bytes done) (decide (done = 0)) false s =
      bumpIf (decide (done = 0) && s.line.assembly.isSome) .frameTruncated (setAssembly (some (bytes.take (done + 1))) s) := by
  have hlength := h.length
  have hwithin := h.within
  obtain hzero | hpos := Nat.eq_zero_or_pos done
  · subst hzero
    rw [← take_append_getByte h.within]
    cases hassembly : s.line.assembly with
    | none => exact assemble_of_hunt _ true false hassembly
    | some begun => exact assemble_marked_of_begun _ false hassembly
  · rw [decide_eq_false (Nat.pos_iff_ne_zero.1 hpos), Bool.false_and, assemble_of_begun _ false (h.assembly hpos),
      take_append_getByte h.within]
    refine extendFrame_of_part false s ?_
    have htake : (bytes.take (done + 1)).length = done + 1 := by rw [List.length_take]; omega
    have hone : (getByte (bytes.take (done + 1)) 1).toNat = body.length := by
      obtain rfl | hmore := Nat.eq_or_lt_of_le (show 1 ≤ done from hpos)
      · rw [← h.bodyLength, getByte, getByte, List.getD_eq_getElem _ _ (by omega), List.getD_eq_getElem _ _ (by omega),
          List.getElem_take]
      · rw [← take_append_getByte h.within, getByte_take_append _ hmore hwithin.le, h.bodyLength]
    have hshort := h.short
    omega

/-- R149: the last character of an attempt completes the frame in the assembler, which is the station's own. -/
theorem assemble_readBack_last {s : State} {bytes : List Byte} {done : Nat} {body : List Byte} (h : Sends s bytes done body)
    (hlast : bytes.length = done + 1) : assemble (getByte bytes done) (decide (done = 0)) true s = setAssembly none s := by
  have hlength := h.length
  rw [decide_eq_false (by omega), assemble_of_begun _ true (h.assembly (by omega)), take_append_getByte h.within, ← hlast,
    List.take_length, extendFrame_of_whole true s (by omega) (by rw [h.bodyLength, hlength])]
  rfl

/-- R143, R148: a character not read back leaves the receive buffer and the peer table, except where it ends a frame of another
station before the attempt's head is read back. -/
theorem assemble_mismatch_keeps {s : State} {bytes : List Byte} {done : Nat} {body : List Byte} (h : Sends s bytes done body)
    {data : Byte} {mark : Bool} (hother : data ≠ getByte bytes done ∨ mark ≠ decide (done = 0))
    (hcase : 0 < done ∨ mark = true ∨ s.line.assembly = none) :
    (assemble data mark false s).line.rx = s.line.rx ∧ (assemble data mark false s).peers = s.peers := by
  have hlength := h.length
  have hwithin := h.within
  cases mark with
  | true =>
    cases hassembly : s.line.assembly with
    | none => rw [assemble_of_hunt data true false hassembly]; exact ⟨rfl, rfl⟩
    | some begun => rw [assemble_marked_of_begun data false hassembly]; exact ⟨rfl, rfl⟩
  | false =>
    by_cases hpos : 0 < done
    · have hdata : data ≠ getByte bytes done := hother.resolve_right fun h => h (decide_eq_false (by omega)).symm
      have hextended : (bytes.take done ++ [data]).length = done + 1 := by
        rw [List.length_append, List.length_take, List.length_singleton]
        omega
      rw [assemble_of_begun data false (h.assembly hpos)]
      by_cases hpart : (bytes.take done ++ [data]).length ≠ (getByte (bytes.take done ++ [data]) 1).toNat + 6
      · exact extendFrame_keeps false s (.inr hpart)
      · have hwhole := not_not.1 hpart
        have hone : getByte (bytes.take done ++ [data]) 1 = getByte bytes 1 := getByte_take_append data (by omega) hwithin.le
        have hsame : bytes.length = done + 1 := by rw [hone, h.bodyLength] at hwhole; omega
        rw [extendFrame_of_whole false s (by omega) hwhole, frameComplete_badCheck]
        · exact ⟨rfl, rfl⟩
        · intro hcheck
          have hcovered : (bytes.take done ++ [data]).take (bytes.length - 2) = bytes.take (bytes.length - 2) := by
            rw [List.take_append_of_le_length (by rw [List.length_take]; omega), List.take_take]
            congr 1
            omega
          rw [hextended, ← hsame, hcovered, ← h.check] at hcheck
          have hframes : bytes.take done ++ [data] = bytes := by
            rw [← List.take_append_drop (bytes.length - 2) (bytes.take done ++ [data]), hcheck, hcovered, List.take_append_drop]
          have hend := take_append_getByte hwithin
          rw [← hsame, List.take_length] at hend
          exact hdata (List.singleton_inj.1 (List.append_cancel_left (hframes.trans hend.symm)))
    · have hassembly : s.line.assembly = none := (hcase.resolve_left hpos).resolve_left nofun
      rw [assemble_of_hunt data false false hassembly]
      exact ⟨rfl, rfl⟩

end Sys2Proof.Machine

/-! PROOFS. What a received character does (R140, R141, R148, R149). -/

namespace Sys2Proof.Machine

theorem sendComplete_of_head {s : State} {p : TxPayload} {n : Nat} {later : List TxFrame}
    (h : s.line.tx = { payload := p, attempts := n } :: later) : ∃ t, sendComplete s = testHead t ∧
      t.line = { s.line with tx := later, backoff := 0, attempt := none } ∧
      t.journal = journalMarked p .sent s.journal ∧ t.restart = restartAfter p s.restart ∧
      t = { s with line := t.line, journal := t.journal, restart := t.restart } := by
  have hsent : sendComplete s = testHead (noteSent p (popHead { s with line := { s.line with attempt := none } })) := by
    unfold sendComplete
    rw [h]
  rw [noteSent_eq] at hsent
  exact ⟨_, hsent, congrArg (fun l => ({ s.line with tx := l, backoff := 0, attempt := none } : Line)) (congrArg List.tail h),
    rfl, rfl, rfl⟩

theorem readBack_of_part {a : Attempt} {data : Byte} {mark : Bool} (s : State) (hmatches : a.matches data mark = true)
    (hlast : a.last = false) : readBack a data mark s = { s with line := { s.line with attempt := some { a with done := a.done + 1 } } } := by
  unfold readBack
  rw [if_pos hmatches, if_neg (ne_true_of_eq_false hlast)]

theorem readBack_of_last {a : Attempt} {data : Byte} {mark : Bool} (s : State) (hmatches : a.matches data mark = true)
    (hlast : a.last = true) : readBack a data mark s = sendComplete s := by
  unfold readBack
  rw [if_pos hmatches, if_pos hlast]

theorem readBack_of_other {a : Attempt} {data : Byte} {mark : Bool} (s : State) (hmatches : a.matches data mark = false) :
    readBack a data mark s = collide s := if_neg (ne_true_of_eq_false hmatches)

theorem matches_iff (bytes : List Byte) (done : Nat) (data : Byte) (mark : Bool) :
    Attempt.matches { bytes := bytes, done := done } data mark = true ↔ data = getByte bytes done ∧ mark = decide (done = 0) := by
  rw [Attempt.matches, Bool.and_eq_true, decide_eq_true_eq, beq_iff_eq]
  exact and_congr_left' eq_comm

/-- R148: a collision after the assembler's work, seen from before it. -/
theorem collide_draws_assembled {u v : State} {p : TxPayload} {n : Nat} {later : List TxFrame} (hv : assembled u v)
    (hcounter : v.counter .collision = u.counter .collision) (htx : u.line.tx = { payload := p, attempts := n } :: later) (hn : n ≠ 16) :
    ∃ t, collide v = t ∧
      t.line = { u.line with attempt := none, backoff := u.line.generator.toNat % 2 ^ min n 6, assembly := t.line.assembly
                             rx := t.line.rx } ∧
      t.counter .collision = min 65535 (u.counter .collision + 1) ∧ t.line.rx = v.line.rx ∧ t.line.assembly = v.line.assembly ∧
      t.peers = v.peers ∧ (∀ k, k ≠ .collision → t.counter k = v.counter k) ∧
      t = { u with line := t.line, counters := t.counters, peers := t.peers } := by
  have htx' : v.line.tx = { payload := p, attempts := n } :: later := by rw [hv]; exact htx
  refine ⟨_, collide_draws htx' hn, ?_, (counter_bump_self _ _).trans (congrArg (fun n => min 65535 (n + 1)) hcounter), rfl, rfl, rfl,
    fun k hk => (counter_bump ..).trans (if_neg (Ne.symm hk)), ?_⟩
  · rw [hv]
    rfl
  · rw [hv]
    rfl

theorem collide_gives_up_assembled {u v : State} {p : TxPayload} {later : List TxFrame} (hv : assembled u v)
    (hcounter : ∀ k, k = .collision ∨ k = .frameGiveUp ∨ k = .replyDropped → v.counter k = u.counter k)
    (htx : u.line.tx = { payload := p, attempts := 16 } :: later) :
    ∃ t, collide v = testHead t ∧
      t.line = { u.line with tx := later, attempt := none, backoff := 0, assembly := t.line.assembly, rx := t.line.rx } ∧
      t.counter .collision = min 65535 (u.counter .collision + 1) ∧
      t.counter .frameGiveUp = min 65535 (u.counter .frameGiveUp + 1) ∧
      (∀ reply, p = .reply reply → t.counter .replyDropped = min 65535 (u.counter .replyDropped + 1)) ∧
      t.journal = journalMarked p .lost u.journal ∧ t.restart = restartAfter p u.restart ∧ t.line.rx = v.line.rx ∧
      t.line.assembly = v.line.assembly ∧ t.peers = v.peers ∧
      (∀ k, k ≠ .collision → k ≠ .frameGiveUp → k ≠ .replyDropped → t.counter k = v.counter k) ∧
      t = { u with line := t.line, journal := t.journal, restart := t.restart, counters := t.counters, peers := t.peers } := by
  have htx' : v.line.tx = { payload := p, attempts := 16 } :: later := by rw [hv]; exact htx
  obtain ⟨t, ht, hline, hcollision, hgiven, hreply, -, hother, hjournal, hrestart, hframe⟩ := collide_gives_up htx'
  have hvline : v.line = { u.line with assembly := v.line.assembly, rx := v.line.rx } := by rw [hv]
  have hrx : t.line.rx = v.line.rx := by rw [hline]
  have hassembly : t.line.assembly = v.line.assembly := by rw [hline]
  refine ⟨t, ht, ?_, hcollision.trans (by rw [hcounter _ (.inl rfl)]), hgiven.trans (by rw [hcounter _ (.inr (.inl rfl))]),
    fun r hr => (hreply r hr).trans (by rw [hcounter _ (.inr (.inr rfl))]), hjournal.trans (by rw [hv]), hrestart.trans (by rw [hv]),
    hrx, hassembly, by rw [hframe], hother, ?_⟩
  · rw [hrx, hassembly, hline, hvline]
  · have hrest : v = { u with line := v.line, counters := v.counters, peers := v.peers } := by
      rw [hv]
    rw [hframe, hrest]

theorem testHead_counter (s : State) {k : Counter} (h : k ≠ .decisionHeld) : (testHead s).counter k = s.counter k := by
  obtain ht | ⟨w, rest, -, ht⟩ := testHead_cases s
  · rw [ht]
  · rw [ht]
    exact (counter_bump ..).trans (if_neg (Ne.symm h))

/-- R148: what the assembler made of a character that is not read back, or of a framing error. -/
def strayed (u v : State) (framing kept : Prop) : Prop :=
  assembled u v ∧ (∀ k, k = .collision ∨ k = .frameGiveUp ∨ k = .replyDropped → v.counter k = u.counter k) ∧
    (kept → v.line.rx = u.line.rx ∧ v.peers = u.peers) ∧
    (framing → v.line.assembly = none ∧ v.counter .lineFramingError = min 65535 (u.counter .lineFramingError + 1))

theorem strayed_framingError (u : State) (framing kept : Prop) :
    strayed u (bump .lineFramingError (setAssembly none u)) framing kept := by
  refine ⟨rfl, fun k hk => (counter_bump ..).trans (if_neg ?_), fun _ => ⟨rfl, rfl⟩, fun _ => ⟨rfl, counter_bump_self _ _⟩⟩
  obtain rfl | rfl | rfl := hk <;> decide

theorem strayed_assemble {u : State} {data : Byte} {mark : Bool} {framing kept : Prop} (hframing : ¬framing)
    (hkept : kept → (assemble data mark false u).line.rx = u.line.rx ∧ (assemble data mark false u).peers = u.peers) :
    strayed u (assemble data mark false u) framing kept := by
  refine ⟨assembled_assemble data mark false u, fun k hk => assemble_counter data mark false u ?_, hkept, fun h => absurd h hframing⟩
  obtain rfl | rfl | rfl := hk <;> decide

/-- Settles O50: outside an attempt by the assembler, in one by the read-back and the collisions. -/
theorem charactersAreTaken : Obligations.CharactersAreTaken := by
  intro s u cells data mark hrun hreceiving hu
  obtain ⟨hchar, herror⟩ := characterReceived_of_running (cells := cells) hrun hreceiving hu
  refine ⟨fun hnone => ⟨fun hframing => ?_, fun hcell => ?_⟩, ?_⟩
  · have hattempt : u.line.attempt = none := by rw [hu]; exact hnone
    exact congrArg Host.Outcome.next ((herror hframing).trans (takeFramingError_of_none hattempt))
  · have hattempt : u.line.attempt = none := by rw [hu]; exact hnone
    have htake := (hchar data mark hcell).trans (takeCharacter_of_none data mark hattempt)
    refine ⟨fun hhunt => ?_, fun begun hbegun => ⟨fun hmark => ?_, fun hmark bytes v hbytes hv => ?_⟩⟩
    · exact congrArg Host.Outcome.next (htake.trans (assemble_of_hunt data mark false (by rw [hu]; exact hhunt)))
    · subst hmark
      exact congrArg Host.Outcome.next (htake.trans (assemble_marked_of_begun data false (by rw [hu]; exact hbegun)))
    · subst hmark
      have hextend := htake.trans (assemble_of_begun data false (by rw [hu]; exact hbegun))
      rw [← hbytes] at hextend
      have hv' : v = setAssembly none u := hv
      refine ⟨fun hlength hlong => ?_, fun hpart => ?_, fun hlength hwhole => ?_⟩
      · rw [extendFrame_of_long false u hlength hlong, ← hv'] at hextend
        exact congrArg Host.Outcome.next hextend
      · rw [extendFrame_of_part false u hpart] at hextend
        exact congrArg Host.Outcome.next hextend
      · rw [extendFrame_of_whole false u hlength hwhole, ← hv'] at hextend
        exact ⟨_, congrArg Host.Outcome.next hextend, frameTested_frameComplete v (by omega)⟩
  · intro bytes done kind source dest body p n later hattempt htx hbytes hshort hwithin hassembly
    have hsends : Sends u bytes done body := by
      refine ⟨?_, ⟨kind, source, dest, hbytes⟩, hshort, hwithin, ?_⟩
      · rw [hu]; exact hattempt
      · rw [hu]; exact hassembly
    have htx' : u.line.tx = { payload := p, attempts := n } :: later := by rw [hu]; exact htx
    have hcounters (k : Counter) : u.counter k = s.counter k := by rw [hu]; rfl
    have hrx : u.line.rx = s.line.rx := by rw [hu]
    have hgenerator : u.line.generator = s.line.generator := by rw [hu]
    refine ⟨fun hcell hdata hmark => ?_, fun hother => ?_⟩
    · have hmatches := (matches_iff bytes done data mark).2 ⟨hdata, hmark⟩
      have htake := (hchar data mark hcell).trans (takeCharacter_of_attempt data mark hsends.attempt)
      rw [hmatches, Bool.true_and] at htake
      refine ⟨fun hpart => ?_, fun hend => ?_⟩
      · have hlast : Attempt.last { bytes := bytes, done := done } = false := decide_eq_false (by dsimp only; omega)
        rw [hlast, readBack_of_part _ hmatches hlast, hdata, hmark, assemble_readBack_part hsends hpart] at htake
        refine ⟨_, congrArg Host.Outcome.next htake, ?_, ?_, ?_⟩
        · obtain ⟨k, h⟩ := bumpIf_changes (decide (done = 0) && u.line.assembly.isSome) .frameTruncated
            (setAssembly (some (bytes.take (done + 1))) u)
          rw [h]
          rfl
        · rw [hu]
          cases decide (done = 0) && s.line.assembly.isSome <;> rfl
        · obtain ⟨k, h⟩ := bumpIf_changes (decide (done = 0) && u.line.assembly.isSome) .frameTruncated
            (setAssembly (some (bytes.take (done + 1))) u)
          rw [h, hu]
          rfl
      · have hlast : Attempt.last { bytes := bytes, done := done } = true := decide_eq_true (by dsimp only; omega)
        rw [hlast, readBack_of_last _ hmatches hlast, hdata, hmark, assemble_readBack_last hsends hend] at htake
        obtain ⟨t, ht, hline, hjournal, hrestart, hframe⟩ := sendComplete_of_head (s := setAssembly none u) htx'
        refine ⟨t, congrArg Host.Outcome.next (htake.trans ht), hline, hjournal.trans (by rw [hu]; rfl),
          hrestart.trans (by rw [hu]; rfl), hframe.trans (by rw [hu]; rfl)⟩
    · obtain ⟨v, hexec, hassembled, hcount, hkeeps, hframing⟩ : ∃ v, characterReceived cells s = collide v ∧
          strayed u v (receiveCells cells = .framingError)
            (receiveCells cells = .framingError ∨ 0 < done ∨ mark = true ∨ s.line.assembly = none) := by
        obtain hcell | ⟨hcell, hmiss⟩ := hother
        · exact ⟨_, (herror hcell).trans (takeFramingError_of_attempt hsends.attempt), strayed_framingError ..⟩
        · have hmatches : Attempt.matches { bytes := bytes, done := done } data mark = false := by
            rw [← Bool.not_eq_true, matches_iff]
            exact fun h => hmiss.elim (fun hd => hd h.1) (fun hm => hm h.2)
          have htake := (hchar data mark hcell).trans (takeCharacter_of_attempt data mark hsends.attempt)
          rw [hmatches, Bool.false_and, readBack_of_other _ hmatches] at htake
          have hnot : ¬receiveCells cells = .framingError := fun h => nomatch hcell.symm.trans h
          exact ⟨_, htake, strayed_assemble hnot fun h => assemble_mismatch_keeps hsends hmiss
            ((h.resolve_left hnot).imp id (Or.imp id fun h => by rw [hu]; exact h))⟩
      have hcollision := hcount .collision (.inl rfl)
      refine ⟨fun hcell => ?_, fun hn => ?_, fun hn => ?_⟩
      · obtain ⟨hassembly, hcounted⟩ := hframing hcell
        by_cases hn : n = 16
        · subst hn
          obtain ⟨t, ht, -, -, -, -, -, -, -, hsame, -, hkept, -⟩ := collide_gives_up_assembled hassembled hcount htx'
          obtain ⟨w, k, hhead⟩ := testHead_changes t
          have hhold : (testHead t).counter .lineFramingError = t.counter .lineFramingError := testHead_counter t (by decide)
          exact ⟨testHead t, congrArg Host.Outcome.next (hexec.trans ht), by rw [hhead]; exact hsame.trans hassembly,
            (hhold.trans ((hkept _ (by decide) (by decide) (by decide)).trans hcounted)).trans (by rw [hcounters])⟩
        · obtain ⟨t, ht, -, -, -, hsame, -, hkept, -⟩ := collide_draws_assembled hassembled hcollision htx' hn
          exact ⟨t, congrArg Host.Outcome.next (hexec.trans ht), hsame.trans hassembly,
            ((hkept _ (by decide)).trans hcounted).trans (by rw [hcounters])⟩
      · obtain ⟨t, ht, hline, hcount', hrx', -, hpeers, -, hframe⟩ := collide_draws_assembled hassembled hcollision htx' hn
        refine ⟨t, congrArg Host.Outcome.next (hexec.trans ht), by rw [← hgenerator]; exact hline, hcount'.trans (by rw [hcounters]),
          fun h => ?_, hframe.trans (by rw [hu])⟩
        obtain ⟨hkeptRx, hkeptPeers⟩ := hkeeps h
        exact ⟨hrx'.trans (hkeptRx.trans hrx), hpeers.trans (hkeptPeers.trans (by rw [hu]))⟩
      · subst hn
        obtain ⟨t, ht, hline, hcount', hgiven, hreply, hjournal, hrestart, hrx', -, hpeers, -, hframe⟩ :=
          collide_gives_up_assembled hassembled hcount htx'
        refine ⟨t, congrArg Host.Outcome.next (hexec.trans ht), hline, hcount'.trans (by rw [hcounters]), hgiven.trans (by rw [hcounters]),
          fun r hr => (hreply r hr).trans (by rw [hcounters]), hjournal.trans (by rw [hu]), hrestart.trans (by rw [hu]),
          fun h => ?_, hframe.trans (by rw [hu])⟩
        obtain ⟨hkeptRx, hkeptPeers⟩ := hkeeps h
        exact ⟨hrx'.trans (hkeptRx.trans hrx), hpeers.trans (hkeptPeers.trans (by rw [hu]))⟩

end Sys2Proof.Machine

/-! PROOFS. The bodies a station sends, byte by byte, and their reading (R151). -/

namespace Sys2Proof.Machine

/-! ### Reading at an offset -/

theorem get_of_drop {l : List Byte} {i k : Nat} {m : List Byte} (h : l.drop i = m) : Machine.get l i k = Machine.get m 0 k := by
  rw [Machine.get, Machine.get, slice, slice, h]
  rfl

theorem get_at1 {l rest : List Byte} {i n : Nat} (h : l.drop i = put1 n ++ rest) (hn : n < 256) : Machine.get l i 1 = n :=
  (get_of_drop h).trans (get_put1 n hn rest)

theorem get_at2 {l rest : List Byte} {i n : Nat} (h : l.drop i = put2 n ++ rest) (hn : n < 65536) : Machine.get l i 2 = n :=
  (get_of_drop h).trans (get_put2 n hn rest)

theorem get_at3 {l rest : List Byte} {i n : Nat} (h : l.drop i = put3 n ++ rest) (hn : n < 16777216) : Machine.get l i 3 = n :=
  (get_of_drop h).trans (get_put3 n hn rest)

theorem get_at4 {l rest : List Byte} {i n : Nat} (h : l.drop i = put4 n ++ rest) (hn : n < 4294967296) : Machine.get l i 4 = n :=
  (get_of_drop h).trans (get_put4 n hn rest)

/-- What follows a part that stands at an offset. -/
theorem drop_behind {l m rest : List Byte} {i : Nat} (h : l.drop i = m ++ rest) {j : Nat} (hj : j = i + m.length) :
    l.drop j = rest := by
  rw [hj, ← List.drop_drop, h, List.drop_left]

theorem drop_behind_byte {l rest : List Byte} {i : Nat} {b : Byte} (h : l.drop i = b :: rest) : l.drop (i + 1) = rest := by
  rw [← List.drop_drop, h]
  rfl

theorem getByte_of_drop {l rest : List Byte} {i : Nat} {b : Byte} (h : l.drop i = b :: rest) : getByte l i = b := by
  have hin : i < l.length := by
    by_contra hout
    rw [List.drop_eq_nil_of_le (not_lt.1 hout)] at h
    exact nomatch h
  rw [List.drop_eq_getElem_cons hin] at h
  rw [getByte, List.getD_eq_getElem _ _ hin]
  exact (List.cons.inj h).1

theorem getStamp_at {l rest : List Byte} {i : Nat} {a : Stamp} (h : l.drop i = putStamp a ++ rest) (ha : a.fits) : getStamp l i = a := by
  obtain ⟨hweek, hminute, hsecond⟩ := ha
  have h0 : l.drop i = put2 a.week ++ (put2 a.minute ++ (put1 a.second ++ rest)) := h
  have h2 : l.drop (i + 2) = _ := drop_behind h0 rfl
  have h4 : l.drop (i + 4) = _ := drop_behind h2 rfl
  rw [getStamp, get_at2 h0 hweek, get_at2 h2 hminute, get_at1 h4 hsecond]

theorem getKey_at {l rest : List Byte} {i : Nat} {k : PunchKey} (h : l.drop i = k.bytes ++ rest) (hk : k.fits) : getKey l i = k := by
  obtain ⟨hstamp, hstation⟩ := hk
  have h0 : l.drop i = putStamp k.stamp ++ (put1 k.station ++ rest) := h
  have h5 : l.drop (i + 5) = _ := drop_behind h0 rfl
  rw [getKey, getStamp_at h0 hstamp, get_at1 h5 hstation]

theorem length_putOptAbs (a : Option Nat) : (putOptAbs a).length = 4 := by
  cases a <;> rfl

theorem getOptAbs_at {l rest : List Byte} {i : Nat} {a : Option Nat} (h : l.drop i = putOptAbs a ++ rest) (ha : optAbsFits a) :
    getOptAbs l i = a := by
  unfold getOptAbs
  cases a with
  | none =>
    have hones : Machine.get l i 4 = 4294967295 := (get_of_drop h).trans rfl
    rw [hones]
    rfl
  | some n =>
    have hn := ha n rfl
    rw [get_at4 h (by omega)]
    exact if_neg (by omega)

theorem resultFlagsOf_byte (f : ResultFlags) : resultFlagsOf f.byte = f := by
  obtain ⟨a, b, c, d, e, g, k⟩ := f
  revert a b c d e g k
  decide

theorem getResult_at {l rest : List Byte} {i : Nat} {r : PayResult} (h : l.drop i = r.bytes ++ rest) (hr : r.fits) :
    getResult l i = r := by
  obtain ⟨hkey, hstart, hin, hout, hregular, hot1, hot2, hnight, hbreak, hcredits, hpay⟩ := hr
  have h0 : l.drop i = r.key.bytes ++ (putOptAbs r.start ++ (put4 r.effIn ++ (put4 r.effOut ++ (put2 r.regular ++ (put2 r.ot1 ++
      (put2 r.ot2 ++ (put2 r.night ++ (put2 r.breakMinutes ++ (put2 r.credits ++ (put3 r.pay ++ (r.flags.byte :: rest))))))))))) := by
    rw [h, PayResult.bytes]
    simp only [List.append_assoc, List.singleton_append]
  have h6 : l.drop (i + 6) = _ := drop_behind h0 rfl
  have h10 : l.drop (i + 10) = _ := drop_behind h6 (by rw [length_putOptAbs])
  have h14 : l.drop (i + 14) = _ := drop_behind h10 rfl
  have h18 : l.drop (i + 18) = _ := drop_behind h14 rfl
  have h20 : l.drop (i + 20) = _ := drop_behind h18 rfl
  have h22 : l.drop (i + 22) = _ := drop_behind h20 rfl
  have h24 : l.drop (i + 24) = _ := drop_behind h22 rfl
  have h26 : l.drop (i + 26) = _ := drop_behind h24 rfl
  have h28 : l.drop (i + 28) = _ := drop_behind h26 rfl
  have h30 : l.drop (i + 30) = _ := drop_behind h28 rfl
  have h33 : l.drop (i + 33) = _ := drop_behind h30 rfl
  rw [getResult, getKey_at h0 hkey, getOptAbs_at h6 hstart, get_at4 h10 hin, get_at4 h14 hout, get_at2 h18 hregular, get_at2 h20 hot1,
    get_at2 h22 hot2, get_at2 h24 hnight, get_at2 h26 hbreak, get_at2 h28 hcredits, get_at3 h30 hpay, getByte_of_drop h33,
    resultFlagsOf_byte]

/-! ### PUNCH -/

/-- R151: the parts of a notice, each at its place. -/
def occurrenceBytes (n : PunchNotice) : List Byte := match n.occurrence with | none => [] | some o => o.bytes

def supersededBytes (n : PunchNotice) : List Byte := match n.superseded with | none => [] | some k => k.bytes

def resultBytes (n : PunchNotice) : List Byte := match n.result with | none => [] | some r => r.bytes

theorem length_occurrenceBytes (n : PunchNotice) : (occurrenceBytes n).length = if n.occurrence.isSome then 6 else 0 := by
  unfold occurrenceBytes
  cases n.occurrence with
  | none => rfl
  | some o =>
    change (put1 o.code ++ put1 o.kind.code ++ putOptAbs o.start).length = 6
    rw [List.length_append, length_putOptAbs]
    rfl

theorem length_supersededBytes (n : PunchNotice) : (supersededBytes n).length = if n.superseded.isSome then 6 else 0 := by
  unfold supersededBytes
  cases n.superseded <;> rfl

theorem length_resultBytes (n : PunchNotice) : (resultBytes n).length = if n.result.isSome then 34 else 0 := by
  unfold resultBytes
  cases n.result with
  | none => rfl
  | some r =>
    change r.bytes.length = 34
    simp only [PayResult.bytes, List.length_append, length_putOptAbs]
    rfl

theorem punchBytes_eq (n : PunchNotice) : n.bytes = put2 n.sequence ++ (put3 n.badge ++ (n.partsByte :: byteOf n.flags.nibble ::
    (putStamp n.stamp ++ (occurrenceBytes n ++ (supersededBytes n ++ (resultBytes n ++ [])))))) := by
  have hlayout : n.bytes = put2 n.sequence ++ put3 n.badge ++ [n.partsByte] ++ [byteOf n.flags.nibble] ++ putStamp n.stamp ++
      occurrenceBytes n ++ supersededBytes n ++ resultBytes n := rfl
  rw [hlayout]
  simp only [List.append_assoc, List.cons_append, List.nil_append, List.append_nil]

theorem occKindOf_code (k : OccKind) : occKindOf k.code = some k := by
  cases k <;> rfl

theorem punchFlagsOf_nibble (f : PunchFlags) : punchFlagsOf (byteOf f.nibble) = f := by
  obtain ⟨h0, h1, h2, h3⟩ := flagBits_read f.softPassback f.unpaired f.crossed f.delivered
  unfold punchFlagsOf PunchFlags.nibble
  rw [h0, h1, h2, h3]

/-- R151: the OCCURRENCE part at an offset. -/
theorem getOccurrence_at {l rest : List Byte} {o : Occurrence} (h : l.drop 12 = o.bytes ++ rest) (ho : o.fits) :
    Machine.get l 12 1 = o.code ∧ Machine.get l 13 1 = o.kind.code ∧ getOptAbs l 14 = o.start := by
  obtain ⟨hcode, hstart⟩ := ho
  have h12 : l.drop 12 = put1 o.code ++ (put1 o.kind.code ++ (putOptAbs o.start ++ rest)) := h
  have h13 : l.drop 13 = _ := drop_behind h12 rfl
  have h14 : l.drop 14 = _ := drop_behind h13 rfl
  exact ⟨get_at1 h12 hcode, get_at1 h13 (by cases o.kind <;> decide), getOptAbs_at h14 hstart⟩

theorem getPunch_bytes {n : PunchNotice} (hsequence : n.sequence < 65536) (hbadge : n.badge < 16777216) (hstamp : n.stamp.fits)
    (hoccurrence : ∀ o, n.occurrence = some o → o.fits) (hsuperseded : ∀ k, n.superseded = some k → k.fits)
    (hresult : ∀ r, n.result = some r → r.fits) : getPunch n.bytes = some n := by
  have h0 : n.bytes.drop 0 = _ := punchBytes_eq n
  have h2 : n.bytes.drop 2 = _ := drop_behind h0 rfl
  have h5 : n.bytes.drop 5 = _ := drop_behind h2 rfl
  have h6 : n.bytes.drop 6 = _ := drop_behind_byte h5
  have h7 : n.bytes.drop 7 = _ := drop_behind_byte h6
  have h12 : n.bytes.drop 12 = _ := drop_behind h7 rfl
  have hafterOcc : n.bytes.drop (if n.occurrence.isSome then 18 else 12) = _ :=
    drop_behind h12 (by rw [length_occurrenceBytes]; split <;> rfl)
  have hafterSup : n.bytes.drop (if n.superseded.isSome then (if n.occurrence.isSome then 18 else 12) + 6
      else (if n.occurrence.isSome then 18 else 12)) = _ :=
    drop_behind hafterOcc (by rw [length_supersededBytes]; split <;> rfl)
  obtain ⟨hbit0, hbit1, hbit2, hbit3⟩ := flagBits_read (n.direction == .outward) n.occurrence.isSome n.superseded.isSome
    n.result.isSome
  have hdirection : (if n.direction == .outward then Direction.outward else .inward) = n.direction := by
    cases n.direction <;> rfl
  have hkey : (if n.superseded.isSome then some (getKey n.bytes (if n.occurrence.isSome then 18 else 12)) else none) = n.superseded := by
    cases hs : n.superseded with
    | none => rfl
    | some k =>
      rw [supersededBytes, hs] at hafterOcc
      exact congrArg some (getKey_at hafterOcc (hsuperseded k hs))
  have hclose : (if n.result.isSome then some (getResult n.bytes (if n.superseded.isSome then
      (if n.occurrence.isSome then 18 else 12) + 6 else (if n.occurrence.isSome then 18 else 12))) else none) = n.result := by
    cases hr : n.result with
    | none => rfl
    | some r =>
      rw [resultBytes, hr] at hafterSup
      exact congrArg some (getResult_at hafterSup (hresult r hr))
  unfold getPunch
  dsimp only
  rw [getByte_of_drop h5, getByte_of_drop h6, PunchNotice.partsByte, hbit0, hbit1, hbit2, hbit3, get_at2 h0 hsequence,
    get_at3 h2 hbadge, getStamp_at h7 hstamp, punchFlagsOf_nibble, hkey, hclose, hdirection]
  cases ho : n.occurrence with
  | none => rw [if_neg (fun h => nomatch h), ← ho]
  | some o =>
    rw [occurrenceBytes, ho] at h12
    obtain ⟨hcode, hkind, hstart⟩ := getOccurrence_at h12 (hoccurrence o ho)
    rw [if_pos (show (some o).isSome = true from rfl), hkind, occKindOf_code, hcode, hstart]
    dsimp only
    rw [← ho]

theorem lengthPermitted_punch (n : PunchNotice) : lengthPermitted .punch n.bytes = true := by
  have h0 : n.bytes.drop 0 = _ := punchBytes_eq n
  have h2 : n.bytes.drop 2 = _ := drop_behind h0 rfl
  have h5 : n.bytes.drop 5 = _ := drop_behind h2 rfl
  obtain ⟨-, hbit1, hbit2, hbit3⟩ := flagBits_read (n.direction == .outward) n.occurrence.isSome n.superseded.isSome
    n.result.isSome
  have hlength : n.bytes.length = 12 + (if n.occurrence.isSome then 6 else 0) + (if n.superseded.isSome then 6 else 0) +
      (if n.result.isSome then 34 else 0) := by
    rw [punchBytes_eq, ← length_occurrenceBytes, ← length_supersededBytes, ← length_resultBytes]
    simp only [List.length_append, List.length_cons, length_put2, length_put3, length_putStamp, List.length_nil]
    omega
  refine (lengthPermitted_iff .punch n.bytes).2 (.inr (.inr (.inr (.inr ⟨rfl, by omega, ?_⟩))))
  rw [getByte_of_drop h5, PunchNotice.partsByte, hbit1, hbit2, hbit3, hlength]

/-! ### BEACON and RING -/

theorem beaconFlagsOf_nibble (f : BeaconFlags) : beaconFlagsOf (byteOf f.nibble) = f := by
  obtain ⟨h0, h1, h2, h3⟩ := flagBits_read f.clockSet f.isolated f.bellFault f.duplicate
  unfold beaconFlagsOf BeaconFlags.nibble
  rw [h0, h1, h2, h3]

theorem getBeacon_bytes {b : BeaconBody} (hrole : b.roleCode < 256) (hzone : b.zone < 256) (hstamp : b.stamp.fits)
    (hrecords : b.records < 65536) : getBeacon b.bytes = b := by
  have h0 : b.bytes.drop 0 = put1 b.roleCode ++ (put1 b.zone ++ (byteOf b.flags.nibble :: (putStamp b.stamp ++ (put2 b.records ++ [])))) := rfl
  have h1 : b.bytes.drop 1 = _ := drop_behind h0 rfl
  have h2 : b.bytes.drop 2 = _ := drop_behind h1 rfl
  have h3 : b.bytes.drop 3 = _ := drop_behind_byte h2
  have h8 : b.bytes.drop 8 = _ := drop_behind h3 rfl
  rw [getBeacon, get_at1 h0 hrole, get_at1 h1 hzone, getByte_of_drop h2, beaconFlagsOf_nibble, getStamp_at h3 hstamp,
    get_at2 h8 hrecords]

theorem patternOf_byte (p : Pattern) (h : ∀ k, p = .continuous k → k < 32) : patternOf p.byte = p := by
  cases p with
  | continuous k =>
    have hk := h k rfl
    have hbyte : (Pattern.continuous k).byte.toNat = 192 + k := toNat_byteOf (by omega)
    unfold patternOf patternLength
    rw [hbyte, if_neg (by omega), if_neg (by omega), if_neg (by omega)]
    congr 1
    omega
  | long => rfl
  | double => rfl
  | triple => rfl

theorem getRing_bytes {r : RingNotice} (hzone : r.zone < 256) (hindex : r.index < 256) (hweek : r.week < 65536) (hday : r.day < 256)
    (hminute : r.minute < 65536) (hpattern : ∀ k, r.pattern = .continuous k → k < 32) : getRing r.bytes = r := by
  have h0 : r.bytes.drop 0 = put1 r.zone ++ (put1 r.index ++ (put2 r.week ++ (put1 r.day ++ (put2 r.minute ++ [r.pattern.byte])))) := rfl
  have h1 : r.bytes.drop 1 = _ := drop_behind h0 rfl
  have h2 : r.bytes.drop 2 = _ := drop_behind h1 rfl
  have h4 : r.bytes.drop 4 = _ := drop_behind h2 rfl
  have h5 : r.bytes.drop 5 = _ := drop_behind h4 rfl
  have h7 : r.bytes.drop 7 = _ := drop_behind h5 rfl
  rw [getRing, get_at1 h0 hzone, get_at1 h1 hindex, get_at2 h2 hweek, get_at1 h4 hday, get_at2 h5 hminute, getByte_of_drop h7,
    patternOf_byte _ hpattern]

theorem beaconBody_eq (s : State) : beaconBody s =
    { roleCode := 1, zone := s.settings.zone, stamp := s.clock.stamp, records := s.roster.length
      flags := { clockSet := s.clock.isSet, isolated := isolated s, bellFault := decide (s.bell.state ≠ .ready)
                 duplicate := s.peers.duplicate.isSome } } := by
  have hfault : bellFault s = decide (s.bell.state ≠ .ready) := by
    unfold bellFault
    cases s.bell.state <;> rfl
  rw [beaconBody, stationFlags, hfault]
  rfl

/-- Settles O51: BEACON, RING, REPLY, the numbers, the layout of a PUNCH, and its reading. -/
theorem punchNoticesReadBack : Obligations.PunchNoticesReadBack := by
  refine ⟨fun s b hzone hstamp hrecords hb => ?_, fun s r hzone hindex hweek hday hminute hpattern => ?_, fun s r => ⟨rfl, ?_⟩,
    fun n => ⟨rfl, rfl, rfl, rfl⟩, fun n stampBytes startBytes hstamp hnone hsome => ?_, fun s n => rfl,
    fun n hsequence hbadge hstamp hocc hsup hres => ⟨getPunch_bytes hsequence hbadge hstamp hocc hsup hres, lengthPermitted_punch n⟩⟩
  · have hbody : beaconBody s = b := (beaconBody_eq s).trans hb.symm
    refine ⟨by rw [← hbody]; rfl, getBeacon_bytes (by rw [hb]; exact (by decide : 1 < 256)) (by rw [hb]; exact hzone) (by rw [hb]; exact hstamp)
      (by rw [hb]; exact hrecords), rfl, ?_⟩
    rw [hb]
    have hready : flagBit 2 (decide (s.bell.state ≠ .ready)) = if s.bell.state = .ready then 0 else 4 := by
      cases s.bell.state <;> rfl
    have hflags : ({ clockSet := s.clock.isSet, isolated := isolated s, bellFault := decide (s.bell.state ≠ .ready)
                     duplicate := s.peers.duplicate.isSome } : BeaconFlags).nibble =
        (if s.clock.isSet then 1 else 0) + (if isolated s then 2 else 0) + (if s.bell.state = .ready then 0 else 4) +
          (if s.peers.duplicate.isSome then 8 else 0) := by
      rw [BeaconFlags.nibble, hready]
      rfl
    rw [BeaconBody.bytes, hflags]
    simp only [putStamp, List.append_assoc]
    rfl
  · refine ⟨rfl, getRing_bytes hzone hindex hweek hday hminute hpattern, rfl, ?_⟩
    unfold RingNotice.bytes
    cases r.pattern <;> rfl
  · unfold Reply.bytes
    cases r.status <;> rfl
  · obtain rfl : stampBytes = putStamp := funext hstamp
    obtain rfl : startBytes = putOptAbs := funext fun a => by
      cases a with
      | none => exact hnone
      | some a => exact hsome a
    have hparts : n.partsByte = byteOf ((if n.direction = .outward then 1 else 0) + (if n.occurrence.isSome then 2 else 0) +
        (if n.superseded.isSome then 4 else 0) + (if n.result.isSome then 8 else 0)) := by
      rw [PunchNotice.partsByte]
      cases n.direction <;> rfl
    rw [PunchNotice.bytes, hparts]
    cases n.occurrence with
    | none => cases n.superseded <;> cases n.result <;> rfl
    | some o =>
      have hkind : o.bytes = put1 o.code ++ put1 (match o.kind with | .scheduled => 0 | .offDay => 1 | .noShift => 2) ++ putOptAbs o.start := by
        rw [Occurrence.bytes]
        cases o.kind <;> rfl
      dsimp only
      rw [hkind]
      cases n.superseded <;> cases n.result <;> rfl

end Sys2Proof.Machine

/-! PROOFS. Set Message, Restart, the requests that are discarded, counted or answered BAD VALUE, and how a request is answered
(R152 to R155, R159). -/

namespace Sys2Proof.Machine

/-! ### What serving a request comes to -/

/-- R153, R154: a request of a kind with its parameters in range is answered from what its owner hands back. -/
theorem serve_answers (k : RequestKind) {s t : State} {office dest : Nat} {tag : Byte} {params : List Byte} {rest : List RxFrame}
    {status : ReplyStatus} {data : List Byte} (hready : requestReady s office dest k.code tag params rest)
    (hlength : params.length = k.length) (hrange : k.inRange params = true) (hdest : dest ≠ 0 ∨ k.broadcast = true)
    (happly : k.apply ⟨office, dest, k.code, tag, params⟩ (taken s rest) = (t, some (status, data))) :
    serve k s = answered office dest k.code tag status data t := by
  rw [serve_ready k s office dest k.code tag params rest hready rfl hlength hrange hdest, happly, sendAnswer_answered]

theorem badRequest_of_broadcast (r : Request) (s : State) (h : r.destination = 0) : badRequest r s = bump .requestInvalid s := by
  rw [badRequest, Request.addressed, if_neg (by simp [h])]

theorem badRequest_of_addressed (r : Request) (s : State) (h : r.destination ≠ 0) :
    badRequest r s = answered r.source r.destination r.kind r.tag .badValue [] s := by
  rw [badRequest, Request.addressed, if_pos (decide_eq_true h), answered, if_neg h]
  rfl

/-- R152, tests 3 to 5: a request broadcast where its kind must be addressed. -/
theorem handle_of_broadcast (k : RequestKind) (r : Request) (s : State) (hdest : r.destination = 0) (hk : k.broadcast = false) :
    k.handle r s = bump .notBroadcast s := by
  simp [RequestKind.handle, Request.addressed, hdest, hk]

/-- R152, tests 4 and 5: a request with parameters of another length or out of their ranges. -/
theorem handle_of_bad (k : RequestKind) (r : Request) (s : State) (hdest : r.destination ≠ 0 ∨ k.broadcast = true)
    (hbad : r.params.length ≠ k.length ∨ k.inRange r.params = false) : k.handle r s = badRequest r s := by
  rw [RequestKind.handle, if_neg, if_pos hbad]
  rcases hdest with h | h <;> simp [Request.addressed, h]

/-! ### The sixteen kinds and their rows -/

/-- R152, R155, R156: a row of the table of kinds is served by a kind. -/
structure RequestRow.ServedBy (row : RequestRow) (k : RequestKind) : Prop where
  serves    : ∀ s, exec row.command s = .next (serve k s)
  code      : k.code = row.code
  broadcast : k.broadcast = row.broadcast
  length    : k.length = row.length
  range     : ∀ params : List Byte, paramsOutOfRange row.code params → k.inRange params = false

theorem badgeOk_eq_false (p : List Byte) : badgeOk p = false ↔ get p 0 3 = 0 ∨ 16777214 < get p 0 3 := by
  rw [← Bool.not_eq_true, badgeOk_iff, paramBadge]
  omega

theorem row_servedBy : ∀ row ∈ requestRows, ∃ k, row.ServedBy k := by
  simp only [requestRows, List.forall_mem_cons]
  refine ⟨⟨enrolKind, fun _ => rfl, rfl, rfl, rfl, fun p h => ?enrol⟩, ⟨barKind, fun _ => rfl, rfl, rfl, rfl, fun p h => ?bar⟩,
    ⟨unbarKind, fun _ => rfl, rfl, rfl, rfl, fun p h => ?unbar⟩, ⟨withdrawKind, fun _ => rfl, rfl, rfl, rfl, fun p h => ?withdraw⟩,
    ⟨flagKind, fun _ => rfl, rfl, rfl, rfl, fun p h => ?flag⟩, ⟨setMessageKind, fun _ => rfl, rfl, rfl, rfl, fun p h => ?message⟩,
    ⟨setClockKind, fun _ => rfl, rfl, rfl, rfl, fun p h => ?clock⟩, ⟨ringNowKind, fun _ => rfl, rfl, rfl, rfl, fun p h => ?ring⟩,
    ⟨weekCollectedKind, fun _ => rfl, rfl, rfl, rfl, fun p h => ?collected⟩,
    ⟨remoteReleaseKind, fun _ => rfl, rfl, rfl, rfl, fun p h => ?release⟩,
    ⟨bellTestKind, fun _ => rfl, rfl, rfl, rfl, fun p h => ?test⟩, ⟨readRecordKind, fun _ => rfl, rfl, rfl, rfl, fun p h => ?record⟩,
    ⟨readTotalsKind, fun _ => rfl, rfl, rfl, rfl, fun p h => ?totals⟩,
    ⟨readJournalKind, fun _ => rfl, rfl, rfl, rfl, fun p h => ?journal⟩,
    ⟨readStatusKind, fun _ => rfl, rfl, rfl, rfl, fun p h => ?status⟩, ⟨restartKind, fun _ => rfl, rfl, rfl, rfl, fun p h => ?restart⟩,
    fun _ h => nomatch h⟩ <;> simp [paramsOutOfRange] at h
  case bar | unbar | withdraw | record => exact (badgeOk_eq_false p).2 h
  case enrol =>
    simp only [enrolKind, Bool.and_eq_false_iff, badgeOk_eq_false, decide_eq_false_iff_not]
    omega
  case flag =>
    simp only [flagKind, Bool.and_eq_false_iff, badgeOk_eq_false, decide_eq_false_iff_not]
    omega
  case clock =>
    exact Bool.and_eq_false_iff.2 (h.imp (decide_eq_false <| Nat.not_lt.2 ·) (decide_eq_false <| Nat.not_lt.2 ·))
  case ring => exact (patternOk_eq_false _).2 h
  case message =>
    simp only [setMessageKind, Bool.and_eq_false_iff, decide_eq_false_iff_not]
    omega
  case totals =>
    simp only [readTotalsKind, Bool.and_eq_false_iff, decide_eq_false_iff_not]
    omega
  case status => exact decide_eq_false (by omega)

/-- R152: the codes that are none of the sixteen kinds'. -/
theorem requestKinds_contains_eq_false (code : Byte) :
    requestKinds.contains code = false ↔ code = 0 ∨ (0x09#8 < code ∧ code < 0x10#8) ∨ 0x16#8 < code := by
  simp only [requestKinds, List.contains_eq_mem, decide_eq_false_iff_not, List.mem_cons, List.not_mem_nil, or_false]
  bv_omega

/-! ### The requests that are taken for invalid -/

theorem officeSource_iff (n : Nat) : officeSource n = true ↔ 56 ≤ n ∧ n ≤ 63 := by simp [officeSource]

/-- R152, R159: all that a request from no office, or of an unknown kind, comes to. -/
theorem requestInvalid_of_invalid {s : State} {f : RxFrame} {rest : List RxFrame} (hrun : running s = true)
    (hrx : s.line.rx = f :: rest) (hkind : f.kind = .request)
    (hbad : officeSource f.source = false ∨ requestKinds.contains (getByte f.body 0) = false) :
    requestInvalid s =
      if s.restart ≠ .none then taken s rest
      else if officeSource f.source then badRequest (requestOf f) (taken s rest)
      else bump .foreignSource (taken s rest) := by
  have hinvalid : isInvalidRequest f = true := by
    rw [isInvalidRequest, hkind]
    rcases hbad with h | h <;> rw [h] <;> simp
  unfold requestInvalid
  rw [hrx]
  simp only [hrun, hinvalid, Bool.and_self, if_true]
  rfl

theorem requestInvalid_cases (s : State) (f : RxFrame) (rest : List RxFrame) (code : Byte) (hrun : running s = true)
    (hrx : s.line.rx = f :: rest) (hkind : f.kind = .request) (hcode : code = getByte f.body 0) :
    (s.restart = .none → (f.source < 56 ∨ 63 < f.source) →
        exec .requestInvalid s = .next (bump .foreignSource (taken s rest))) ∧
      (s.restart = .none → 56 ≤ f.source → f.source ≤ 63 →
          (code = 0 ∨ (0x09#8 < code ∧ code < 0x10#8) ∨ 0x16#8 < code) →
        (f.destination = 0 → exec .requestInvalid s = .next (bump .requestInvalid (taken s rest))) ∧
        (f.destination ≠ 0 →
          exec .requestInvalid s =
            .next (answered f.source f.destination code (getByte f.body 1) .badValue [] (taken s rest)))) ∧
      (s.restart ≠ .none →
          (f.source < 56 ∨ 63 < f.source ∨ code = 0 ∨ (0x09#8 < code ∧ code < 0x10#8) ∨ 0x16#8 < code) →
        exec .requestInvalid s = .next (taken s rest)) := by
  subst hcode
  have hforeign (h : f.source < 56 ∨ 63 < f.source) : officeSource f.source = false := by
    rw [← Bool.not_eq_true, officeSource_iff]
    omega
  refine ⟨fun hnone hsource => congrArg Host.Outcome.next ?_, fun hnone hlow hhigh hbad => ?_,
    fun hrestart hbad => congrArg Host.Outcome.next ?_⟩
  · rw [requestInvalid_of_invalid hrun hrx hkind (.inl (hforeign hsource)), if_neg (not_not.2 hnone), hforeign hsource]
    rfl
  · have hinvalid : requestInvalid s = badRequest (requestOf f) (taken s rest) := by
      rw [requestInvalid_of_invalid hrun hrx hkind (.inr ((requestKinds_contains_eq_false _).2 hbad)), if_neg (not_not.2 hnone),
        if_pos ((officeSource_iff _).2 ⟨hlow, hhigh⟩)]
    exact ⟨fun hdest => congrArg Host.Outcome.next (hinvalid.trans (badRequest_of_broadcast _ _ hdest)),
      fun hdest => congrArg Host.Outcome.next (hinvalid.trans (badRequest_of_addressed _ _ hdest))⟩
  · rw [requestInvalid_of_invalid hrun hrx hkind, if_pos hrestart]
    rw [requestKinds_contains_eq_false]
    rcases hbad with h | h | h
    · exact .inl (hforeign (.inl h))
    · exact .inl (hforeign (.inr h))
    · exact .inr h

/-! ### Each row's tests -/

theorem requestRow_tests (row : RequestRow) (hrow : row ∈ requestRows) (s : State) (office dest : Nat) (tag : Byte)
    (params : List Byte) (rest : List RxFrame) (hrun : running s = true) (hlow : 56 ≤ office) (hhigh : office ≤ 63)
    (hrx : s.line.rx = requestFrame office dest row.code tag params :: rest) :
    (s.restart ≠ .none → exec row.command s = .next (taken s rest)) ∧
      (s.restart = .none → dest = 0 → row.broadcast = false → exec row.command s = .next (bump .notBroadcast (taken s rest))) ∧
      (s.restart = .none → (dest ≠ 0 ∨ row.broadcast = true) →
          (params.length ≠ row.length ∨ (params.length = row.length ∧ paramsOutOfRange row.code params)) →
        (dest = 0 → exec row.command s = .next (bump .requestInvalid (taken s rest))) ∧
        (dest ≠ 0 → exec row.command s = .next (answered office dest row.code tag .badValue [] (taken s rest)))) := by
  obtain ⟨k, hserves, hcode, hbroadcast, hlength, hrange⟩ := row_servedBy row hrow
  have hhead := serve_head k s office dest tag params rest hrun hlow hhigh (by rw [hcode, hrx])
  rw [hserves, ← hbroadcast, ← hlength, ← hcode]
  refine ⟨fun hrestart => ?_, fun hnone hdest hk => ?_, fun hnone hdest hbad => ?_⟩
  · rw [hhead, if_neg hrestart]
  · rw [hhead, if_pos hnone, handle_of_broadcast k _ _ hdest hk]
  · have hbad' : params.length ≠ k.length ∨ k.inRange params = false := hbad.imp id fun h => hrange params (hcode ▸ h.2)
    rw [hhead, if_pos hnone, handle_of_bad k ⟨office, dest, k.code, tag, params⟩ _ hdest hbad']
    exact ⟨fun h => congrArg Host.Outcome.next (badRequest_of_broadcast _ _ h),
      fun h => congrArg Host.Outcome.next (badRequest_of_addressed _ _ h)⟩

/-! ### Set Message and Restart -/

theorem exec_setMessage_ready (s : State) (office dest index : Nat) (tag : Byte) (text : List Byte) (rest : List RxFrame)
    (htext : text.length = 16) (hlow : 1 ≤ index) (hhigh : index ≤ 8)
    (hready : requestReady s office dest 0x06#8 tag (put1 index ++ text) rest) :
    exec .setMessage s = .next (answered office dest 0x06#8 tag .done []
      { taken s rest with panel := { s.panel with messages := s.panel.messages.set (index - 1) text } }) := by
  have hindex : Machine.get (put1 index ++ text) 0 1 = index := get_put1 index (by omega) text
  have hrange : setMessageKind.inRange (put1 index ++ text) = true := by
    simp only [setMessageKind, hindex]
    exact Bool.and_eq_true_iff.2 ⟨decide_eq_true hlow, decide_eq_true hhigh⟩
  refine congrArg Host.Outcome.next
    (serve_answers setMessageKind hready (by simp [setMessageKind, htext]) hrange (.inr rfl) ?_)
  simp only [setMessageKind, answer, setMessageText, hindex]
  rfl

theorem exec_restart_ready (s : State) (office dest : Nat) (tag : Byte) (rest : List RxFrame) (hdest : dest ≠ 0)
    (hready : requestReady s office dest 0x16#8 tag [] rest) :
    (s.line.tx.length + s.line.reserved < 16 →
        exec .restart s = .next (answered office dest 0x16#8 tag .done [] { taken s rest with restart := .pending })) ∧
      (16 ≤ s.line.tx.length + s.line.reserved →
        exec .restart s = .next (bump .replyDropped { taken s rest with restart := .replyLeft })) := by
  have hserve {r : RestartState} (hr : (if 1 ≤ txSpace (taken s rest) then RestartState.pending else .replyLeft) = r) :
      exec .restart s = .next (answered office dest 0x16#8 tag .done [] { taken s rest with restart := r }) :=
    congrArg Host.Outcome.next (serve_answers restartKind hready rfl rfl (.inl hdest) (by rw [← hr]; rfl))
  refine ⟨fun hroom => hserve (if_pos ((txSpace_pos_iff (taken s rest)).2 hroom)), fun hfull => ?_⟩
  rw [hserve (if_neg (mt (txSpace_pos_iff (taken s rest)).1 (Nat.not_lt.2 hfull))), answered, if_neg hdest]
  exact congrArg Host.Outcome.next (offer_of_full _ _ hfull)

/-- R147, R153: a reply takes a free slot, or is dropped and counted. -/
theorem offerReply_joins (s : State) (r : Reply) :
    (s.line.tx.length + s.line.reserved < 16 →
        queuedFrame s (offerReply r s) (.reply r) ∧ offerReply r s = { s with line := (offerReply r s).line }) ∧
      (16 ≤ s.line.tx.length + s.line.reserved → offerReply r s = bump .replyDropped s) := by
  refine ⟨fun hroom => ?_, fun hfull => offer_of_full _ _ hfull⟩
  rw [offerReply, offer_of_room _ _ hroom]
  exact ⟨queuedFrame_enqueue _ s, rfl⟩

/-- Settles O53: the parts of the statement one by one, the sixteen rows by the kind that serves each. -/
theorem messagesRestartsAndStrangers : Obligations.MessagesRestartsAndStrangers :=
  ⟨offerReply_joins, exec_setMessage_ready, exec_restart_ready, requestInvalid_cases, requestRow_tests⟩

end Sys2Proof.Machine

/-! PROOFS. The reading requests: the record, the totals, the journal and the station's condition as they are reported (R117 to R119,
R156 to R158, R163). -/

namespace Sys2Proof.Machine

/-! ### The leading elements of one key -/

/-- R117, R163: a list split into what is reported, at most a number of elements and all of the first one's key, and what comes later,
which begins with another key unless the number was reached. -/
structure LeadsBy {α κ : Type} (key : α → κ) (most : Nat) (whole l later : List α) : Prop where
  split : whole = l ++ later
  bound : l.length ≤ most
  empty : l = [] → later = []
  same  : ∀ x ∈ l, ∀ y, l.head? = some y → key x = key y
  next  : ∀ y z, l.head? = some y → later.head? = some z → l.length = most ∨ key z ≠ key y

theorem leadsBy_nil {α κ : Type} (key : α → κ) (most : Nat) : LeadsBy key most [] [] [] :=
  ⟨rfl, Nat.zero_le _, fun _ => rfl, fun _ h => (nomatch h), fun _ _ h => (nomatch h)⟩

theorem leadsBy_cons {α κ : Type} [DecidableEq κ] (key : α → κ) (most : Nat) (x : α) (rest : List α) :
    LeadsBy key (most + 1) (x :: rest) ((x :: rest.takeWhile fun y => decide (key y = key x)).take (most + 1))
      ((x :: rest).drop ((x :: rest.takeWhile fun y => decide (key y = key x)).take (most + 1)).length) := by
  have hwhole : x :: rest = (x :: rest.takeWhile fun y => decide (key y = key x)).take (most + 1) ++
      ((x :: rest.takeWhile fun y => decide (key y = key x)).drop (most + 1) ++ rest.dropWhile fun y => decide (key y = key x)) := by
    rw [← List.append_assoc, List.take_append_drop, List.cons_append, List.takeWhile_append_dropWhile]
  have hlater : (x :: rest).drop ((x :: rest.takeWhile fun y => decide (key y = key x)).take (most + 1)).length =
      (x :: rest.takeWhile fun y => decide (key y = key x)).drop (most + 1) ++ rest.dropWhile fun y => decide (key y = key x) := by
    rw [hwhole, List.drop_left]
  have hkey : ∀ y ∈ (x :: rest.takeWhile fun y => decide (key y = key x)).take (most + 1), key y = key x := fun y hy => by
    rcases List.mem_cons.1 (List.mem_of_mem_take hy) with rfl | hy
    · rfl
    · exact of_decide_eq_true (List.mem_takeWhile_imp (p := fun y => decide (key y = key x)) hy)
  refine ⟨hwhole.trans (congrArg _ hlater.symm), List.length_take_le _ _, fun h => (nomatch h), fun y hy z hz => ?_,
    fun y z hy hz => ?_⟩
  · rw [hkey y hy, ← Option.some.inj hz]
  · rw [← Option.some.inj hy]
    by_cases hlen : (rest.takeWhile fun y => decide (key y = key x)).length < most
    · refine .inr fun h => ?_
      have hnot := List.head?_dropWhile_not (fun y => decide (key y = key x)) rest
      rw [hlater, List.drop_eq_nil_of_le (by simp; omega), List.nil_append] at hz
      rw [hz] at hnot
      exact of_decide_eq_false hnot h
    · refine .inl ?_
      simp
      omega

/-! ### A record -/

theorem record_bytes_eq (x : Record) : x.bytes = recordData x := by
  have hpresence : x.presence.code = if x.presence = .isIn then 1 else 0 := by cases x.presence <;> rfl
  have hlast : lastPunchBytes x.lastPunch = (match x.lastPunch with
      | none => ones 7
      | some l => putStamp l.key.stamp ++ put1 l.key.station ++ put1 (if l.direction = .outward then 1 else 0)) := by
    rcases x.lastPunch with _ | ⟨_, _ | _⟩ <;> rfl
  unfold Record.bytes recordData
  rw [hpresence, hlast]
  rfl

/-! ### Totals -/

theorem leadsBy_reportedRecords (previous : Bool) (l : List Record) :
    LeadsBy (fun x => (x.slot previous).tag) 4 l (reportedRecords previous l) (l.drop (reportedRecords previous l).length) := by
  cases l with
  | nil => exact leadsBy_nil _ _
  | cons x rest => exact leadsBy_cons (fun x : Record => (x.slot previous).tag) 3 x rest

theorem slotNibble_eq (previous : Bool) (w : WeekSlot) : w.nibble (previous && w.collected) =
    (if w.saturated then 1 else 0) + (if w.unpairedSeen then 2 else 0) + (if w.abandonedSeen then 4 else 0) +
      (if previous = true ∧ w.collected = true then 8 else 0) := by
  simp only [WeekSlot.nibble, flagBit, Bool.and_eq_true]
  rfl

theorem slotNibble_lt (w : WeekSlot) (collected : Bool) : w.nibble collected < 16 := by
  simp only [WeekSlot.nibble, flagBit]
  split <;> split <;> split <;> split <;> decide

theorem totalsFlags_lt (previous : Bool) (l : List Record) : totalsFlags previous l < 16 ^ l.length := by
  induction l with
  | nil => exact Nat.zero_lt_one
  | cons x rest ih =>
    have := slotNibble_lt (x.slot previous) (previous && (x.slot previous).collected)
    rw [totalsFlags, List.length_cons, Nat.pow_succ]
    omega

/-- R156: the flags of a record stand at its place among those reported. -/
theorem totalsFlags_digit (previous : Bool) (l : List Record) : ∀ (k : Nat) (x : Record), l[k]? = some x →
    totalsFlags previous l / 16 ^ k % 16 = (x.slot previous).nibble (previous && (x.slot previous).collected) := by
  induction l with
  | nil => exact fun _ _ h => nomatch h
  | cons y rest ih =>
    intro k x hx
    have hlt := slotNibble_lt (y.slot previous) (previous && (y.slot previous).collected)
    rw [totalsFlags]
    cases k with
    | zero =>
      obtain rfl : y = x := Option.some.inj hx
      omega
    | succ k =>
      have htail : ((y.slot previous).nibble (previous && (y.slot previous).collected) + 16 * totalsFlags previous rest) / 16 =
          totalsFlags previous rest := by omega
      rw [Nat.pow_succ', ← Nat.div_div_eq_div_mul, htail]
      exact ih k x hx

theorem totalsReply_reported (roster : List Record) (slot part start : Nat) (hslot : slot ≤ 1) (hpart : part ≤ 1) :
    totalsReported roster slot part start (totalsReply roster (decide (slot = 1)) (decide (part = 1)) start) := by
  intro slotOf hslotOf
  obtain rfl : slotOf = fun x => x.slot (decide (slot = 1)) := funext fun x => (hslotOf x).trans (by simp only [Record.slot, decide_eq_true_eq])
  have hfirst : flagBit 0 (decide (slot = 1)) = slot := by
    obtain rfl | rfl : slot = 0 ∨ slot = 1 := by omega
    · rfl
    · rfl
  have hsecond : flagBit 1 (decide (part = 1)) = 2 * part := by
    obtain rfl | rfl : part = 0 ∨ part = 1 := by omega
    · rfl
    · rfl
  obtain ⟨hsplit, hbound, hempty, hsame, hnext⟩ :=
    leadsBy_reportedRecords (decide (slot = 1)) (roster.filter fun x => decide (start ≤ x.badge))
  refine ⟨_, _, totalsFlags (decide (slot = 1)) (reportedRecords (decide (slot = 1)) (roster.filter fun x => decide (start ≤ x.badge))),
    hsplit, hbound, hempty, hsame, hnext, totalsFlags_lt _ _, fun k x hx => ?_, ?_⟩
  · rw [totalsFlags_digit _ _ k x hx, slotNibble_eq]
    simp only [decide_eq_true_eq]
  · have hrecord : totalsRecord (decide (slot = 1)) (decide (part = 1)) = fun x : Record =>
        if part = 1 then
          put3 x.badge ++ put2 (x.slot (decide (slot = 1))).regular ++ put2 (x.slot (decide (slot = 1))).ot1 ++
            put2 (x.slot (decide (slot = 1))).ot2 ++ put2 (x.slot (decide (slot = 1))).night
        else put3 x.badge ++ put3 (x.slot (decide (slot = 1))).credits ++ put4 (x.slot (decide (slot = 1))).pay ++
          put1 (x.slot (decide (slot = 1))).intervals := by
      funext x
      simp only [totalsRecord, decide_eq_true_eq]
    rw [totalsReply, hfirst, hsecond, hrecord] <;> rfl

/-! ### The journal -/

theorem leadsBy_reportedEntries (l : List JournalEntry) :
    LeadsBy (fun e => e.stamp.week) 6 l (reportedEntries l) (l.drop (reportedEntries l).length) := by
  cases l with
  | nil => exact leadsBy_nil _ _
  | cons x rest => exact leadsBy_cons (fun e : JournalEntry => e.stamp.week) 5 x rest

theorem outcome_code_eq (o : JournalOutcome) : o.code = outcomeRows.idxOf o := by
  rcases o with _ | _ | _ | _ | _ | _ | _ | _ | reason <;> [skip; skip; skip; skip; skip; skip; skip; skip; cases reason] <;> rfl

theorem entry_bytes_eq : JournalEntry.bytes = entryData := by
  funext e
  have hflags (f : PunchFlags) : 16 * f.nibble =
      (if f.softPassback then 16 else 0) + (if f.unpaired then 32 else 0) + (if f.crossed then 64 else 0) +
        (if f.delivered then 128 else 0) := by
    obtain ⟨soft, unpaired, crossed, delivered⟩ := f
    revert soft unpaired crossed delivered
    decide
  unfold JournalEntry.bytes entryData
  rw [outcome_code_eq]
  cases e.flags with
  | none => rfl
  | some f =>
    dsimp only
    rw [hflags f]
    rfl

theorem journalReply_reported (j : Journal) (seq : Nat) :
    journalReported j seq (journalReply j seq).1 (journalReply j seq).2 := by
  intro oldest d holdest hd
  obtain rfl : oldest = j.oldest := holdest
  have hreply : journalReply j seq =
      if j.entries.length < d then (.noRecord, put2 j.oldest ++ put2 j.next)
      else (.done, put2 seq ++ put1 (reportedEntries (j.entries.drop d)).length ++
        (match reportedEntries (j.entries.drop d) with | [] => ones 2 | e :: _ => put2 e.stamp.week) ++
        ((reportedEntries (j.entries.drop d)).map JournalEntry.bytes).flatten) := by
    rw [hd]
    rfl
  refine ⟨fun h => ?_, fun h => ?_⟩
  · rw [hreply, if_pos h]
    exact ⟨rfl, rfl⟩
  · rw [hreply, if_neg (Nat.not_lt.2 h), entry_bytes_eq]
    obtain ⟨hsplit, hbound, hempty, hsame, hnext⟩ := leadsBy_reportedEntries (j.entries.drop d)
    exact ⟨rfl, _, _, hsplit, hbound, hempty, hsame, hnext, rfl⟩

/-! ### The condition, the counters and the peers -/

theorem conditionFlags_eq (s : State) : [conditionFlags (stationFlags s)] =
    put1 ((if s.clock.isSet then 1 else 0) + (if isolated s then 2 else 0) + (if s.peers.duplicate.isSome then 4 else 0) +
      (if s.bell.state = .ready then 0 else 8)) := by
  have hfault : flagBit 3 (bellFault s) = if s.bell.state = .ready then 0 else 8 := by
    unfold bellFault
    cases s.bell.state <;> rfl
  unfold conditionFlags stationFlags
  rw [hfault]
  rfl

theorem pendingCode_eq (p : Option PendingPunch) :
    pendingCode p = match p with
      | none => 0
      | some p => if p.kind = .punch then 1 else 2 := by
  rcases p with _ | p
  · rfl
  · unfold pendingCode
    dsimp only
    cases p.kind <;> rfl

/-- R157: the 24 bytes of section CONDITION. -/
theorem conditionData_eq (s : State) : conditionData s =
    put1 (match s.starts.cause with | .cold => 0 | .warm => 1 | .powerReturn => 2) ++
      put1 ((if s.clock.isSet then 1 else 0) + (if isolated s then 2 else 0) +
        (if s.peers.duplicate.isSome then 4 else 0) + (if s.bell.state = .ready then 0 else 8)) ++
      put2 s.clock.week ++ put2 s.clock.minute ++ put1 s.clock.second ++
      put1 (match s.gate.cycle with
        | .off => 0 | .idle => 1 | .released => 2 | .passing => 3 | .heldOpen => 4 | .forced => 5 | .free => 6) ++
      put1 (match s.bell.state with | .ready => 0 | .faultedShort => 1 | .faultedOpen => 2) ++
      (match s.bell.rush with | none => ones 4 | some stop => put4 stop) ++ put1 s.waiting.length ++
      put1 s.line.tx.length ++ put1 s.line.reserved ++ put2 s.roster.length ++ put1 s.peers.entries.length ++
      putSigned2 s.timebase.trim ++ put2 s.settings.sum ++
      put1 (match s.pendingPunch with
        | none => 0 | some p => if p.kind = .punch then 1 else 2) := by
  rw [conditionData, conditionFlags_eq, pendingCode_eq]
  rfl

/-- R157: the counters in the order of their indexes. -/
theorem counters_toList_eq (s : State) :
    s.counters.toList = counterRows.map (fun c => match c with | some c => s.counter c | none => s.counters.get 18) := by
  have hrows : counterRows.map (fun c => match c with | some c => c.index | none => 18) = List.finRange 38 := by decide
  have hvalues : counterRows.map (fun c => match c with | some c => s.counter c | none => s.counters.get 18) =
      (List.finRange 38).map s.counters.get := by
    rw [← hrows, List.map_map]
    refine List.map_congr_left fun c _ => ?_
    cases c <;> rfl
  rw [hvalues]
  refine List.ext_getElem (by simp) fun i _ _ => ?_
  simp [Vector.get]

theorem peerStatus_eq (p : Peer) : [p.statusByte] =
    put1 ((if p.role = .office then 1 else 0) + (if p.state = .silent then 2 else 0) + (if p.lagging then 4 else 0) +
      (if p.flags.clockSet then 16 else 0) + (if p.flags.isolated then 32 else 0) +
      (if p.flags.bellFault then 64 else 0) + (if p.flags.duplicate then 128 else 0)) := by
  have hrole : flagBit 0 (p.role == .office) = if p.role = .office then 1 else 0 := by cases p.role <;> rfl
  have hstate : flagBit 1 (p.state == .silent) = if p.state = .silent then 2 else 0 := by cases p.state <;> rfl
  have hnibble : 16 * p.flags.nibble = (if p.flags.clockSet then 16 else 0) + (if p.flags.isolated then 32 else 0) +
      (if p.flags.bellFault then 64 else 0) + (if p.flags.duplicate then 128 else 0) := by
    obtain ⟨clockSet, isolated, fault, duplicate⟩ := p.flags
    revert clockSet isolated fault duplicate
    decide
  rw [Peer.statusByte, hrole, hstate, hnibble]
  simp only [put1, Nat.add_assoc]
  rfl

/-! ### The replies -/

theorem exec_readStatus_ready (s : State) (office dest part index : Nat) (tag : Byte) (rest : List RxFrame) (hdest : dest ≠ 0)
    (hpart : part ≤ 2) (hindex : index < 256) (hready : requestReady s office dest 0x15#8 tag (put1 part ++ put1 index) rest) :
    exec .readStatus s = .next (answered office dest 0x15#8 tag .done (statusData (taken s rest) part index) (taken s rest)) := by
  have hget : Machine.get (put1 part ++ put1 index) 0 1 = part := get_at1 (rest := put1 index) rfl (by omega)
  have hgetIndex : Machine.get (put1 part ++ put1 index) 1 1 = index := get_at1 (rest := []) rfl hindex
  refine congrArg Host.Outcome.next
    (serve_answers readStatusKind hready rfl (decide_eq_true (hget.trans_le hpart)) (.inl hdest) ?_)
  simp only [readStatusKind, hget, hgetIndex]

/-- Settles O54: each reply by its layout. -/
theorem readingRequestsReport : Obligations.ReadingRequestsReport := by
  intro s office dest tag rest hdest
  refine ⟨fun badge hlow hhigh hready => ?_, fun slot part start hslot hpart hstart hready => ?_, fun seq hseq hready => ?_,
    fun index hindex => ⟨fun hready => ?_, fun hready => ?_, fun hready => ?_⟩⟩
  · have hget : paramBadge (put3 badge) = badge := get_at3 (rest := []) rfl (by omega)
    have hserve := fun {st data} => serve_answers (t := taken s rest) (status := st) (data := data) readRecordKind hready rfl
      ((badgeOk_iff _).2 (by rw [hget]; exact ⟨hlow, hhigh⟩)) (.inl hdest)
    refine ⟨fun hnone => congrArg Host.Outcome.next (hserve ?_), fun x hx => ⟨congrArg Host.Outcome.next (hserve ?_), record_bytes_eq x⟩⟩
    · simp only [readRecordKind, hget, recordReply]
      rw [show findRecord badge (taken s rest).roster = none from hnone]
    · simp only [readRecordKind, hget, recordReply]
      rw [show findRecord badge (taken s rest).roster = some x from hx]
  · have hgetSlot : Machine.get (put1 slot ++ put1 part ++ put3 start) 0 1 = slot :=
      get_at1 (rest := put1 part ++ put3 start) rfl (by omega)
    have hgetPart : Machine.get (put1 slot ++ put1 part ++ put3 start) 1 1 = part := get_at1 (rest := put3 start) rfl (by omega)
    have hgetStart : Machine.get (put1 slot ++ put1 part ++ put3 start) 2 3 = start := get_at3 (rest := []) rfl hstart
    refine ⟨_, congrArg Host.Outcome.next (serve_answers (t := taken s rest) readTotalsKind hready rfl
      (Bool.and_eq_true_iff.2 ⟨decide_eq_true (hgetSlot.trans_le hslot), decide_eq_true (hgetPart.trans_le hpart)⟩)
      (.inl hdest) ?_), rfl, totalsReply_reported s.roster slot part start hslot hpart⟩
    simp only [readTotalsKind, hgetSlot, hgetPart, hgetStart]
    rfl
  · have hget : Machine.get (put2 seq) 0 2 = seq := get_at2 (rest := []) rfl hseq
    refine ⟨_, _, congrArg Host.Outcome.next (serve_answers (t := taken s rest) readJournalKind hready rfl rfl (.inl hdest) ?_), rfl,
      journalReply_reported s.journal seq⟩
    simp only [readJournalKind, hget]
    rfl
  · exact ⟨_, exec_readStatus_ready s office dest 0 index tag rest hdest (by decide) hindex hready, rfl, conditionData_eq _⟩
  · refine ⟨_, exec_readStatus_ready s office dest 1 index tag rest hdest (by decide) hindex hready, rfl, fun l hl => ?_⟩
    obtain rfl : l = (s.counters.toList.drop index).take 24 :=
      hl.trans (congrArg (fun m => (m.drop index).take 24) (counters_toList_eq s).symm)
    rfl
  · refine ⟨_, exec_readStatus_ready s office dest 2 index tag rest hdest (by decide) hindex hready, rfl, fun l hl => ?_⟩
    have hpeer : Peer.bytes = fun p => put1 p.station ++
        put1 ((if p.role = .office then 1 else 0) + (if p.state = .silent then 2 else 0) + (if p.lagging then 4 else 0) +
          (if p.flags.clockSet then 16 else 0) + (if p.flags.isolated then 32 else 0) +
          (if p.flags.bellFault then 64 else 0) + (if p.flags.duplicate then 128 else 0)) ++
        put1 p.zone ++ put2 p.age ++ put1 (p.offset + 127).toNat := by
      funext p
      rw [Peer.bytes, peerStatus_eq]
    rw [hl, ← hpeer]
    rfl

end Sys2Proof.Machine

/-! PROOFS. The office changes to a record: Enrol, Bar, Unbar, Withdraw and Flag (R26 to R30). -/

namespace Sys2Proof.Machine

/-! ### What each change comes to -/

theorem enrolRecord_of_record {badge code cls : Nat} {addressed : Bool} {s : State} {x : Record} (h : s.record badge = some x) :
    enrolRecord badge code cls addressed s =
      ({ s with roster := putRecord { x with shiftCode := code, rateClass := cls } s.roster }, .done) := by
  unfold enrolRecord
  rw [h]

theorem enrolRecord_of_room {badge code cls : Nat} {addressed : Bool} {s : State} (h : s.record badge = none)
    (hroom : s.roster.length < 1024) : enrolRecord badge code cls addressed s =
      ({ s with roster := insertRecord (newRecord badge code cls s.clock.week) s.roster }, .done) := by
  unfold enrolRecord
  rw [h]
  exact if_pos hroom

theorem enrolRecord_of_full {badge code cls : Nat} {addressed : Bool} {s : State} (h : s.record badge = none)
    (hfull : 1024 ≤ s.roster.length) : enrolRecord badge code cls addressed s = (bumpIf (!addressed) .enrolDropped s, .full) := by
  unfold enrolRecord
  rw [h]
  exact if_neg (Nat.not_lt.2 hfull)

theorem barRecord_of_record {badge : Nat} {s : State} {x : Record} (h : s.record badge = some x) :
    (x.status = .active → barRecord badge s = ({ s with roster := putRecord { x with status := .barred } s.roster }, .done)) ∧
      (x.status = .barred → barRecord badge s = (s, .done)) ∧ (x.status = .leaving → barRecord badge s = (s, .wrongState)) := by
  unfold barRecord
  rw [h]
  exact ⟨fun hstatus => by simp only [hstatus], fun hstatus => by simp only [hstatus], fun hstatus => by simp only [hstatus]⟩

theorem barRecord_of_none {badge : Nat} {s : State} (h : s.record badge = none) : barRecord badge s = (s, .noRecord) := by
  unfold barRecord
  rw [h]

theorem unbarRecord_of_record {badge : Nat} {s : State} {x : Record} (h : s.record badge = some x) :
    (x.status = .barred → unbarRecord badge s = ({ s with roster := putRecord { x with status := .active } s.roster }, .done)) ∧
      (x.status = .active → unbarRecord badge s = (s, .done)) ∧ (x.status = .leaving → unbarRecord badge s = (s, .wrongState)) := by
  unfold unbarRecord
  rw [h]
  exact ⟨fun hstatus => by simp only [hstatus], fun hstatus => by simp only [hstatus], fun hstatus => by simp only [hstatus]⟩

theorem unbarRecord_of_none {badge : Nat} {s : State} (h : s.record badge = none) : unbarRecord badge s = (s, .noRecord) := by
  unfold unbarRecord
  rw [h]

theorem withdrawRecord_of_record {badge : Nat} {s : State} {x : Record} (h : s.record badge = some x) :
    (x.presence = .isOut → withdrawRecord badge s = ({ s with roster := removeRecord badge s.roster }, .done)) ∧
      (x.presence = .isIn →
        withdrawRecord badge s = ({ s with roster := putRecord { x with status := .leaving } s.roster }, .done)) := by
  unfold withdrawRecord
  rw [h]
  exact ⟨fun hpresence => by simp only [hpresence], fun hpresence => by simp only [hpresence]⟩

theorem withdrawRecord_of_none {badge : Nat} {s : State} (h : s.record badge = none) :
    withdrawRecord badge s = (s, .noRecord) := by
  unfold withdrawRecord
  rw [h]

theorem flagRecord_of_record {badge index : Nat} {s : State} {x : Record} (h : s.record badge = some x) :
    flagRecord badge index s =
      ({ s with roster := putRecord { x with message := if index = 0 then none else some index } s.roster }, .done) := by
  unfold flagRecord
  rw [h]

theorem flagRecord_of_none {badge index : Nat} {s : State} (h : s.record badge = none) :
    flagRecord badge index s = (s, .noRecord) := by
  unfold flagRecord
  rw [h]

/-! ### The requests that carry a badge -/

theorem paramBadge_put (badge : Nat) (h : badge ≤ 16777214) (rest : List Byte) : paramBadge (put3 badge ++ rest) = badge :=
  get_put3 badge (by omega) rest

theorem badgeOk_put {badge : Nat} (hlow : 1 ≤ badge) (hhigh : badge ≤ 16777214) (rest : List Byte) :
    badgeOk (put3 badge ++ rest) = true :=
  (badgeOk_iff _).2 (by rw [paramBadge_put badge hhigh]; exact ⟨hlow, hhigh⟩)

/-- R153, R155: a request whose parameters are a badge and which changes that badge's record by an owner's operation. -/
theorem serve_badge_request (k : RequestKind) (change : Nat → State → State × ReplyStatus) {s t : State} {office dest badge : Nat}
    {tag : Byte} {rest : List RxFrame} {status : ReplyStatus} (hready : requestReady s office dest k.code tag (put3 badge) rest)
    (hlow : 1 ≤ badge) (hhigh : badge ≤ 16777214) (hlength : k.length = 3) (hrange : k.inRange = badgeOk)
    (hbroadcast : k.broadcast = true) (hk : ∀ r u, k.apply r u = answer (change (paramBadge r.params) u))
    (hchange : change badge (taken s rest) = (t, status)) :
    serve k s = answered office dest k.code tag status [] t := by
  have hput : paramBadge (put3 badge) = badge := paramBadge_put badge hhigh []
  exact serve_answers k hready hlength.symm (by rw [hrange]; exact badgeOk_put hlow hhigh []) (.inr hbroadcast)
    (by rw [hk, hput, hchange]; rfl)

/-! ### Enrol -/

theorem exec_enrol_ready {s t : State} {office dest badge code cls : Nat} {tag : Byte} {rest : List RxFrame} {status : ReplyStatus}
    (hready : requestReady s office dest 0x01#8 tag (put3 badge ++ put1 code ++ put1 cls) rest) (hlow : 1 ≤ badge)
    (hhigh : badge ≤ 16777214) (hcode : code ≤ 12) (hcls : cls ≤ 7)
    (henrol : enrolRecord badge code cls (decide (dest ≠ 0)) (taken s rest) = (t, status)) :
    exec .enrol s = .next (answered office dest 0x01#8 tag status [] t) := by
  have hbadge : paramBadge (put3 badge ++ put1 code ++ put1 cls) = badge := paramBadge_put badge hhigh _
  have hget : Machine.get (put3 badge ++ put1 code ++ put1 cls) 3 1 = code := get_at1 (rest := put1 cls) rfl (by omega)
  have hgetClass : Machine.get (put3 badge ++ put1 code ++ put1 cls) 4 1 = cls := get_at1 (rest := []) rfl (by omega)
  have hrange : enrolKind.inRange (put3 badge ++ put1 code ++ put1 cls) = true := by
    simp only [enrolKind, hget, hgetClass, Bool.and_eq_true, decide_eq_true_eq]
    exact ⟨⟨badgeOk_put hlow hhigh _, hcode⟩, hcls⟩
  refine congrArg Host.Outcome.next (serve_answers enrolKind hready rfl hrange (.inr rfl) ?_)
  simp only [enrolKind, hbadge, hget, hgetClass, Request.addressed, henrol]
  rfl

/-- Settles O20: the record found, room for a new one, and the full roster. -/
theorem enrolInsertsOrUpdates : Obligations.EnrolInsertsOrUpdates := by
  intro s office dest tag badge code cls rest hready hlow hhigh hcode hcls
  have henrol := fun {t status} => exec_enrol_ready (t := t) (status := status) hready hlow hhigh hcode hcls
  refine ⟨fun x hx => henrol (enrolRecord_of_record hx), fun hnone hroom => henrol (enrolRecord_of_room hnone hroom),
    fun hnone hfull hdest => ?_, fun hnone hfull hdest => ?_⟩
  · rw [henrol (enrolRecord_of_full hnone hfull), decide_eq_true hdest]
    rfl
  · rw [henrol (enrolRecord_of_full hnone hfull), answered, if_pos hdest, hdest]
    rfl

/-! ### Bar, Unbar, Withdraw and Flag -/

theorem exec_flag_ready {s t : State} {office dest badge index : Nat} {tag : Byte} {rest : List RxFrame} {status : ReplyStatus}
    (hready : requestReady s office dest 0x05#8 tag (put3 badge ++ put1 index) rest) (hlow : 1 ≤ badge)
    (hhigh : badge ≤ 16777214) (hindex : index ≤ 8) (hflag : flagRecord badge index (taken s rest) = (t, status)) :
    exec .flag s = .next (answered office dest 0x05#8 tag status [] t) := by
  have hbadge : paramBadge (put3 badge ++ put1 index) = badge := paramBadge_put badge hhigh _
  have hget : Machine.get (put3 badge ++ put1 index) 3 1 = index := get_at1 (rest := []) rfl (by omega)
  have hrange : flagKind.inRange (put3 badge ++ put1 index) = true := by
    simp only [flagKind, hget, Bool.and_eq_true, decide_eq_true_eq]
    exact ⟨badgeOk_put hlow hhigh _, hindex⟩
  refine congrArg Host.Outcome.next (serve_answers flagKind hready rfl hrange (.inr rfl) ?_)
  simp only [flagKind, hbadge, hget, hflag]
  rfl

/-- Settles O21: each change by the record's status or presence. -/
theorem officeChangesARecord : Obligations.OfficeChangesARecord := by
  intro s office dest tag badge rest hlow hhigh
  refine ⟨fun hready => ?_, fun hready => ?_, fun hready => ?_, fun index hindex hready => ?_⟩
  · have hserve {t status} (h : barRecord badge (taken s rest) = (t, status)) :
        exec .bar s = .next (answered office dest 0x02#8 tag status [] t) :=
      congrArg Host.Outcome.next (serve_badge_request barKind barRecord hready hlow hhigh rfl rfl rfl (fun _ _ => rfl) h)
    refine ⟨fun hnone => hserve (barRecord_of_none hnone), fun x hx => ?_⟩
    obtain ⟨hactive, hbarred, hleaving⟩ := barRecord_of_record (s := taken s rest) hx
    exact ⟨fun h => hserve (hactive h), fun h => hserve (hbarred h), fun h => hserve (hleaving h)⟩
  · have hserve {t status} (h : unbarRecord badge (taken s rest) = (t, status)) :
        exec .unbar s = .next (answered office dest 0x03#8 tag status [] t) :=
      congrArg Host.Outcome.next (serve_badge_request unbarKind unbarRecord hready hlow hhigh rfl rfl rfl (fun _ _ => rfl) h)
    refine ⟨fun hnone => hserve (unbarRecord_of_none hnone), fun x hx => ?_⟩
    obtain ⟨hbarred, hactive, hleaving⟩ := unbarRecord_of_record (s := taken s rest) hx
    exact ⟨fun h => hserve (hbarred h), fun h => hserve (hactive h), fun h => hserve (hleaving h)⟩
  · have hserve {t status} (h : withdrawRecord badge (taken s rest) = (t, status)) :
        exec .withdraw s = .next (answered office dest 0x04#8 tag status [] t) :=
      congrArg Host.Outcome.next (serve_badge_request withdrawKind withdrawRecord hready hlow hhigh rfl rfl rfl (fun _ _ => rfl) h)
    refine ⟨fun hnone => hserve (withdrawRecord_of_none hnone), fun x hx => ?_⟩
    obtain ⟨hout, hin⟩ := withdrawRecord_of_record (s := taken s rest) hx
    exact ⟨fun h => hserve (hout h), fun h => hserve (hin h)⟩
  · exact ⟨fun hnone => exec_flag_ready hready hlow hhigh hindex (flagRecord_of_none hnone),
      fun x hx => exec_flag_ready hready hlow hhigh hindex (flagRecord_of_record hx)⟩

end Sys2Proof.Machine

/-! PROOFS. The sounder: strokes, gaps and pauses, Ring Now and Bell Test (R129 to R135). -/

namespace Sys2Proof.Machine

/-! ### When each step acts -/

theorem timerDue_of_elapsed {timer : Option Timer} {x : Timer} {now : Nat} (htimer : timer = some x)
    (hdue : x.duration ≤ elapsedSince now x.start) : timerDue timer now = true := by
  rw [htimer]
  exact decide_eq_true hdue

theorem strokeEnd_of_due {s : State} {timer : Timer} (hrun : running s = true) (hsounder : s.bell.sounder = .striking)
    (htimer : s.bell.timer = some timer) (hdue : timer.duration ≤ elapsedSince s.now timer.start) (habove : s.bell.aboveRun < 3)
    (hnumber : 0 < s.bell.number) : strokeEnd s =
      if s.settings.openLimit ≤ s.bell.sum / s.bell.number then strokePassed (s.bell.sum / s.bell.number) s
      else strokeFailed (s.bell.sum / s.bell.number) s := by
  have hmean : strokeMean s = s.bell.sum / s.bell.number := if_neg (Nat.ne_of_gt hnumber)
  have hwhole : decide (s.bell.aboveRun < Config.shortRun) = true := decide_eq_true habove
  rw [strokeEnd, hrun, hsounder, timerDue_of_elapsed htimer hdue, hwhole, hmean]
  rfl

theorem strokeShortCut_of_run {s : State} (hrun : running s = true) (hsounder : s.bell.sounder = .striking)
    (habove : 3 ≤ s.bell.aboveRun) :
    (∀ ring k, s.bell.current = some (.ring ring k) → strokeShortCut s = pauseWith .faultedShort s) ∧
      ∀ office tag, s.bell.current = some (.test office tag) →
        strokeShortCut s = offerReply (testReply office tag 1 0 s.bell.highest) (pauseWith .faultedShort s) := by
  have hdue : (running s && s.bell.sounder == .striking && decide (Config.shortRun ≤ s.bell.aboveRun)) = true := by
    rw [hrun, hsounder]
    exact decide_eq_true habove
  rw [strokeShortCut, if_pos hdue]
  exact ⟨fun ring k hcurrent => by rw [hcurrent], fun office tag hcurrent => by rw [hcurrent]⟩

theorem gapEnd_of_due {s : State} {timer : Timer} {ring : Ring} {k : Nat} (hrun : running s = true)
    (htimer : s.bell.timer = some timer) (hdue : timer.duration ≤ elapsedSince s.now timer.start)
    (hsounder : s.bell.sounder = .gap) (hcurrent : s.bell.current = some (.ring ring (k + 1))) :
    gapEnd s = { s with bell := s.bell.strike s.now ring.pattern.strokeLength (.ring ring k) } := by
  have hnow : (running s && s.bell.sounder == .gap && timerDue s.bell.timer s.now) = true := by
    rw [hrun, hsounder, timerDue_of_elapsed htimer hdue]
    rfl
  rw [gapEnd, if_pos hnow, hcurrent]

theorem pauseEnd_of_due {s : State} {timer : Timer} (hrun : running s = true) (htimer : s.bell.timer = some timer)
    (hdue : timer.duration ≤ elapsedSince s.now timer.start) (hsounder : s.bell.sounder = .pause) :
    pauseEnd s = startRings { s with bell := { s.bell with sounder := .quiet, timer := none } } := by
  have hnow : (running s && s.bell.sounder == .pause && timerDue s.bell.timer s.now) = true := by
    rw [hrun, hsounder, timerDue_of_elapsed htimer hdue]
    rfl
  rw [pauseEnd, if_pos hnow]

/-! ### What a stroke's end comes to -/

theorem strokePassed_cases (mean : Nat) (s : State) :
    (∀ ring k, s.bell.current = some (.ring ring (k + 1)) → strokePassed mean s = { s with bell := s.bell.gapNow s.now }) ∧
      (∀ ring, s.bell.current = some (.ring ring 0) → strokePassed mean s = pauseWith s.bell.state s) ∧
      ∀ office tag, s.bell.current = some (.test office tag) →
        strokePassed mean s = offerReply (testReply office tag 0 mean s.bell.highest) (pauseWith .ready s) := by
  unfold strokePassed
  exact ⟨fun ring k hcurrent => by rw [hcurrent], fun ring hcurrent => by rw [hcurrent],
    fun office tag hcurrent => by rw [hcurrent]⟩

theorem strokeFailed_cases (mean : Nat) (s : State) :
    (∀ ring k, s.bell.current = some (.ring ring k) → strokeFailed mean s = bump .openStroke (pauseWith .faultedOpen s)) ∧
      ∀ office tag, s.bell.current = some (.test office tag) →
        strokeFailed mean s =
          offerReply (testReply office tag 2 mean s.bell.highest) (bump .openStroke (pauseWith .faultedOpen s)) := by
  unfold strokeFailed
  exact ⟨fun ring k hcurrent => by rw [hcurrent], fun office tag hcurrent => by rw [hcurrent]⟩

/-- Settles O46: the stroke that passes and the one that fails, each by what sounds. -/
theorem strokesAreJudgedByTheirMean : Obligations.StrokesAreJudgedByTheirMean := by
  intro s timer hrun hsounder htimer hdue habove hnumber
  have hend : exec .strokeEnd s = .next (strokeEnd s) := rfl
  rw [hend, strokeEnd_of_due hrun hsounder htimer hdue habove hnumber]
  refine ⟨fun hpass => ?_, fun hfail => ?_⟩
  · obtain ⟨hgap, hlast, htest⟩ := strokePassed_cases (s.bell.sum / s.bell.number) s
    rw [if_pos hpass]
    exact ⟨fun ring k h => congrArg Host.Outcome.next (hgap ring k h), fun ring h => congrArg Host.Outcome.next (hlast ring h),
      fun office tag h => congrArg Host.Outcome.next (htest office tag h)⟩
  · obtain ⟨hring, htest⟩ := strokeFailed_cases (s.bell.sum / s.bell.number) s
    rw [if_neg (Nat.not_le.2 hfail)]
    exact ⟨_, rfl, fun ring k h => congrArg Host.Outcome.next (hring ring k h),
      fun office tag h => congrArg Host.Outcome.next (htest office tag h)⟩

/-! ### Rings that begin or are skipped -/

theorem startRings_of_empty {s : State} (h : s.bell.queue = []) : startRings s = s := by
  unfold startRings
  rw [h]
  exact ite_self s

theorem startRings_of_ready {s : State} {ring : Ring} {later : List Ring} (hquiet : s.bell.sounder = .quiet)
    (hready : s.bell.state = .ready) (hqueue : s.bell.queue = ring :: later) :
    startRings s = { s with bell := Bell.beginRing { s.bell with queue := later } s.now ring } := by
  unfold startRings
  rw [if_pos hquiet, hqueue]
  exact if_pos hready

theorem startRings_of_faulted {s : State} (hquiet : s.bell.sounder = .quiet) (hfault : s.bell.state ≠ .ready)
    (hqueue : s.bell.queue ≠ []) : startRings s =
      addCount .bellSkipped s.bell.queue.length { s with bell := { s.bell with queue := [] } } := by
  obtain ⟨ring, later, hcons⟩ := List.exists_cons_of_ne_nil hqueue
  unfold startRings
  rw [if_pos hquiet, hcons]
  exact if_neg hfault

/-- Settles O47: the patterns, the cut, the gap and the pause. -/
theorem sounderMovesOn : Obligations.SounderMovesOn := by
  refine ⟨fun p => by cases p <;> rfl, fun s hrun => ⟨fun hsounder habove => ?_, fun timer htimer hdue => ?_⟩⟩
  · obtain ⟨hring, htest⟩ := strokeShortCut_of_run hrun hsounder habove
    exact ⟨_, rfl, fun ring k h => congrArg Host.Outcome.next (hring ring k h),
      fun office tag h => congrArg Host.Outcome.next (htest office tag h)⟩
  · have hpause (hsounder : s.bell.sounder = .pause) : exec .pauseEnd s = _ :=
      congrArg Host.Outcome.next (pauseEnd_of_due hrun htimer hdue hsounder)
    refine ⟨fun ring k hsounder hcurrent => congrArg Host.Outcome.next (gapEnd_of_due hrun htimer hdue hsounder hcurrent),
      fun hsounder hempty => ?_, fun ring later hsounder hready hqueue => ?_, fun hsounder hfault hqueue => ?_⟩
    · rw [hpause hsounder]
      exact congrArg Host.Outcome.next (startRings_of_empty (by exact hempty))
    · rw [hpause hsounder]
      exact congrArg Host.Outcome.next (startRings_of_ready rfl (by exact hready) (by exact hqueue))
    · rw [hpause hsounder]
      exact congrArg Host.Outcome.next (startRings_of_faulted rfl (by exact hfault) (by exact hqueue))

/-! ### Ring Now and Bell Test -/

theorem patternOk_byte (p : Pattern) (h : ∀ n, p = .continuous n → 1 ≤ n ∧ n ≤ 30) : patternOk p.byte = true := by
  cases p with
  | continuous n =>
    obtain ⟨hlow, hhigh⟩ := h n rfl
    have hbyte : (Pattern.continuous n).byte.toNat = 192 + n := toNat_byteOf (by omega)
    rw [← Bool.not_eq_false, patternOk_eq_false, hbyte]
    omega
  | long => rfl
  | double => rfl
  | triple => rfl

theorem exec_ringNow_ready {s t : State} {office dest : Nat} {tag : Byte} {pattern : Pattern} {rest : List RxFrame}
    {status : ReplyStatus} (hpattern : ∀ n, pattern = .continuous n → 1 ≤ n ∧ n ≤ 30)
    (hready : requestReady s office dest 0x08#8 tag [pattern.byte] rest)
    (hring : ringNowRing pattern (decide (dest ≠ 0)) (taken s rest) = (t, status)) :
    exec .ringNow s = .next (answered office dest 0x08#8 tag status [] t) := by
  have hget : patternOf (getByte [pattern.byte] 0) = pattern :=
    patternOf_byte pattern fun n hn => Nat.lt_of_le_of_lt (hpattern n hn).2 (by decide)
  refine congrArg Host.Outcome.next (serve_answers ringNowKind hready rfl (patternOk_byte pattern hpattern) (.inr rfl) ?_)
  simp only [ringNowKind, hget, Request.addressed, hring]
  rfl

theorem ringNowRing_of_full {p : Pattern} {addressed : Bool} {s : State} (h : 4 ≤ s.bell.queue.length) :
    ringNowRing p addressed s = (bumpIf (!addressed) .ringDropped s, .wrongState) := by
  rw [ringNowRing, if_pos ((ringsFull_iff s).2 h)]

theorem ringNowRing_of_room {p : Pattern} {addressed : Bool} {s : State} (h : s.bell.queue.length < 4) :
    ringNowRing p addressed s = (ringJoin { pattern := p, origin := .ringNow } s, .done) := by
  rw [ringNowRing, if_neg (mt (ringsFull_iff s).1 (Nat.not_le.2 h))]

theorem ringJoin_of_faulted {s : State} (ring : Ring) (hfault : s.bell.state ≠ .ready) (hquiet : s.bell.sounder = .quiet)
    (hempty : s.bell.queue = []) : ringJoin ring s = bump .bellSkipped s := by
  have hsame : ({ s with bell := { s.bell with queue := [] } } : State) = s := by rw [← hempty]
  rw [ringJoin, startRings_of_faulted (by exact hquiet) (by exact hfault) (by simp), hempty]
  exact congrArg (bump .bellSkipped) hsame

theorem beginTest_of_quiet {s : State} (office : Nat) (tag : Byte) (h : s.bell.sounder = .quiet) :
    beginTest office tag s = some { s with bell := s.bell.strike s.now 1000 (.test office tag) } := if_pos h

theorem beginTest_of_sounding {s : State} (office : Nat) (tag : Byte) (h : s.bell.sounder ≠ .quiet) :
    beginTest office tag s = none := if_neg h

/-- Settles O48: Ring Now by the queue and the sounder, Bell Test by the sounder. -/
theorem officeRingsAndTests : Obligations.OfficeRingsAndTests := by
  intro s office dest tag rest
  refine ⟨fun pattern hpattern hready => ?_, fun hdest hready => ⟨fun hquiet => ?_, fun hsounds => ?_⟩⟩
  · have hring := fun {t status} => exec_ringNow_ready (t := t) (status := status) hpattern hready
    have hroom (hempty : s.bell.queue = []) : (taken s rest).bell.queue.length < 4 := by
      rw [show (taken s rest).bell.queue = [] from hempty]
      decide
    refine ⟨fun hfull hdest => ?_, fun hfull hdest => ?_, fun hless hsounds => ?_, fun hempty hquiet hfault => ?_,
      fun hempty hquiet hstate => ?_⟩
    · rw [hring (ringNowRing_of_full hfull), decide_eq_true hdest]
      rfl
    · rw [hring (ringNowRing_of_full hfull), answered, if_pos hdest, hdest]
      rfl
    · exact (hring (ringNowRing_of_room hless)).trans
        (congrArg (fun t => Host.Outcome.next (answered office dest 0x08#8 tag .done [] t)) (ringJoin_of_sounding _ hsounds))
    · exact (hring (ringNowRing_of_room (hroom hempty))).trans
        (congrArg (fun t => Host.Outcome.next (answered office dest 0x08#8 tag .done [] t))
          (ringJoin_of_faulted _ hfault hquiet hempty))
    · exact (hring (ringNowRing_of_room (hroom hempty))).trans
        (congrArg (fun t => Host.Outcome.next (answered office dest 0x08#8 tag .done [] t))
          (ringJoin_of_quiet _ hstate hquiet hempty))
  · refine congrArg Host.Outcome.next ?_
    rw [serve_ready bellTestKind s office dest 0x11#8 tag [] rest hready rfl rfl rfl (.inl hdest)]
    simp only [bellTestKind, bellTestAnswer, beginTest_of_quiet (s := taken s rest) office tag hquiet, sendAnswer]
    rfl
  · refine congrArg Host.Outcome.next (serve_answers bellTestKind hready rfl rfl (.inl hdest) ?_)
    simp only [bellTestKind, bellTestAnswer, beginTest_of_sounding (s := taken s rest) office tag hsounds]

end Sys2Proof.Machine

/-! PROOFS. The reader channels: pulses, timers, lamps and tones (R43, R44, R47, R61). -/

namespace Sys2Proof.Machine

/-! ### The condition of a channel -/

theorem channelEnabled_iff (s : State) (r : Reader) : channelEnabled s r = true ↔
    running s = true ∧ (s.settings.gateRole = .both ∨ s.settings.gateRole = (if r = .entry then .entryOnly else .exitOnly)) := by
  have hrole : roleEnables s.settings.gateRole r = true ↔
      s.settings.gateRole = .both ∨ s.settings.gateRole = (if r = .entry then .entryOnly else .exitOnly) := by
    generalize s.settings.gateRole = role
    cases r <;> cases role <;> decide
  rw [channelEnabled, Bool.and_eq_true, hrole]

/-! ### Pulses -/

theorem currentRead_eq (s : State) (r : Reader) : currentRead s r = (s.channel r).read.getD
    { bits := [], count := 0, spoiled := false, lastEnd := s.now, zeroStuck := false, oneStuck := false } := by
  unfold currentRead
  cases (s.channel r).read <;> rfl

theorem qualifiedPulse_of_enabled {s : State} {r : Reader} (rail : Rail) (overlaps : Bool) (h : channelEnabled s r = true) :
    qualifiedPulse r rail overlaps s = s.setChannel r { s.channel r with read := (some
      ((if overlaps || (currentRead s r).stuck then (currentRead s r).spoil s.now
        else (currentRead s r).addBit (railBit rail) s.now).setStuck rail false)) } := if_pos h

theorem qualifiedPulse_of_disabled {s : State} {r : Reader} (rail : Rail) (overlaps : Bool) (h : channelEnabled s r = false) :
    qualifiedPulse r rail overlaps s = s := by
  rw [qualifiedPulse, if_neg (Bool.not_eq_true _ ▸ h)]

theorem railStuck_of_enabled {s : State} {r : Reader} (rail : Rail) (h : channelEnabled s r = true) :
    railStuck r rail s = s.setChannel r { s.channel r with read := (some
      (ReadInProgress.setStuck { currentRead s r with spoiled := true } rail true)) } := if_pos h

theorem railStuck_of_disabled {s : State} {r : Reader} (rail : Rail) (h : channelEnabled s r = false) :
    railStuck r rail s = s := by
  rw [railStuck, if_neg (Bool.not_eq_true _ ▸ h)]

/-- R44: the rail's flag after its pulse, and the other rail's flag kept. -/
theorem setStuck_false (x : ReadInProgress) (rail : Rail) : x.setStuck rail false =
    { x with zeroStuck := x.zeroStuck && decide (rail = .one), oneStuck := x.oneStuck && decide (rail = .zero) } := by
  cases rail <;> simp [ReadInProgress.setStuck]

theorem setStuck_true (x : ReadInProgress) (rail : Rail) : x.setStuck rail true =
    { x with zeroStuck := x.zeroStuck || decide (rail = .zero), oneStuck := x.oneStuck || decide (rail = .one) } := by
  cases rail <;> simp [ReadInProgress.setStuck]

theorem railBit_eq (rail : Rail) : railBit rail = decide (rail = .one) := by cases rail <;> rfl

/-- Settles O26: the channel that ignores pulses, the bit added, the pulse that spoils and the stuck rail. -/
theorem pulsesMakeARead : Obligations.PulsesMakeARead := by
  intro s r rail
  refine ⟨fun hoff => ⟨fun o => congrArg Host.Outcome.next (qualifiedPulse_of_disabled rail o hoff),
    congrArg Host.Outcome.next (railStuck_of_disabled rail hoff)⟩, fun hon x hx => ?_⟩
  have hread : currentRead s r = x := (currentRead_eq s r).trans hx.symm
  have hpulse (o : Bool) : exec (.qualifiedPulse r rail o) s = _ := congrArg Host.Outcome.next (qualifiedPulse_of_enabled rail o hon)
  have hstuck : exec (.railStuck r rail) s = _ := congrArg Host.Outcome.next (railStuck_of_enabled rail hon)
  rw [hread] at hstuck
  refine ⟨fun hzero hone => ?_, fun o ho => ?_, ?_⟩
  · rw [hpulse false, hread]
    simp only [ReadInProgress.stuck, hzero, hone, Bool.or_false, Bool.false_eq_true, if_false, setStuck_false,
      ReadInProgress.addBit, Bool.false_and, railBit_eq]
    rfl
  · have hspoils : (o || x.stuck) = true := by
      rcases ho with h | h | h <;> simp [ReadInProgress.stuck, h]
    rw [hpulse o, hread, if_pos hspoils, setStuck_false]
    rfl
  · rw [hstuck, setStuck_true]

/-! ### Lamps and tones -/

theorem lampOf_of_lost {s : State} (r : Reader) (h : s.starts.supply = .lost) : lampOf s r = .off := by
  simp [lampOf, powered, h]

theorem lampOf_of_disabled {s : State} (r : Reader) (hrun : running s = true) (h : channelEnabled s r = false) :
    lampOf s r = .off := by
  simp [lampOf, hrun, h]

theorem powered_iff (s : State) : powered s = true ↔ s.starts.supply ≠ .lost := bne_iff_ne

theorem powered_of_running {s : State} (h : running s = true) : powered s = true := by
  rw [powered_iff]
  intro hlost
  simp [running, hlost] at h

theorem lampOf_of_enabled {s : State} (r : Reader) (h : channelEnabled s r = true) : lampOf s r =
    match (s.channel r).indication with
    | some i => if i.admitted then .green else .red
    | none => if s.waiting.any (fun w => w.reader == r) then .amber else .off := by
  have hrun := running_of_channelEnabled s r h
  rw [lampOf, powered_of_running hrun, hrun, h]
  rfl

theorem lamp_of_enabled_cases {s : State} {r : Reader} (h : channelEnabled s r = true) :
    (∀ i, (s.channel r).indication = some i → lampOf s r = (if i.admitted then .green else .red)) ∧
      ((s.channel r).indication = none → (∃ w ∈ s.waiting, w.reader = r) → lampOf s r = .amber) ∧
      ((s.channel r).indication = none → (∀ w ∈ s.waiting, w.reader ≠ r) → lampOf s r = .off) := by
  have hwaits : s.waiting.any (fun w => w.reader == r) = true ↔ ∃ w ∈ s.waiting, w.reader = r := by simp
  rw [lampOf_of_enabled r h]
  refine ⟨fun i hi => by rw [hi], fun hnone hsome => ?_, fun hnone hall => ?_⟩
  · rw [hnone]
    exact if_pos (hwaits.2 hsome)
  · rw [hnone]
    refine if_neg (mt hwaits.1 ?_)
    rintro ⟨w, hw, hr⟩
    exact hall w hw hr

theorem toneOutput_iff (s : State) (r : Reader) :
    toneOutput s r = true ↔ channelEnabled s r = true ∧ ∃ t, (s.channel r).tone = some t ∧ t.sounding = true := by
  rw [toneOutput, Bool.and_eq_true]
  cases (s.channel r).tone <;> simp

/-! ### The timers of a channel -/

theorem suppressionExpiry_of_due {s : State} {r : Reader} {e : Suppressed} {rest : List Suppressed}
    (hon : channelEnabled s r = true) (hlist : (s.channel r).suppression = e :: rest)
    (hdue : 4000 ≤ elapsedSince s.now e.time) :
    suppressionExpiry r s = s.setChannel r { s.channel r with suppression := rest } := by
  unfold suppressionExpiry
  rw [hlist]
  exact if_pos (Bool.and_eq_true_iff.2 ⟨hon, decide_eq_true hdue⟩)

theorem indicationExpiry_of_due {s : State} {r : Reader} {i : Indication} (hon : channelEnabled s r = true)
    (hshows : (s.channel r).indication = some i) (hdue : 3000 ≤ elapsedSince s.now i.start) :
    indicationExpiry r s = s.setChannel r { s.channel r with indication := none } := by
  unfold indicationExpiry
  rw [hshows]
  exact if_pos (Bool.and_eq_true_iff.2 ⟨hon, decide_eq_true hdue⟩)

theorem toneEnd_of_due {s : State} {r : Reader} {t : Tone} (hon : channelEnabled s r = true) (htone : (s.channel r).tone = some t)
    (hdue : t.timer.duration ≤ elapsedSince s.now t.timer.start) :
    toneEnd r s = s.setChannel r { s.channel r with tone := t.next s.now } := by
  unfold toneEnd
  rw [htone]
  exact if_pos (Bool.and_eq_true_iff.2 ⟨hon, decide_eq_true hdue⟩)

/-- R61: what follows a tone, its last one included, and a gap. -/
theorem tone_next_cases (t : Tone) (now : Nat) :
    (t.sounding = true → t.toCome = 0 → t.next now = none) ∧
      (t.sounding = true → t.toCome ≠ 0 →
        t.next now = some { sounding := false, toCome := t.toCome, timer := { start := now, duration := 150 } }) ∧
      (t.sounding = false →
        t.next now = some { sounding := true, toCome := t.toCome - 1, timer := { start := now, duration := 150 } }) := by
  unfold Tone.next
  refine ⟨fun hsounds hlast => by rw [if_pos hsounds, if_pos hlast], fun hsounds hmore => ?_, fun hgap => ?_⟩
  · rw [if_pos hsounds, if_neg hmore]
    rfl
  · rw [hgap]
    rfl

/-- Settles O29: the lamp and the tone line by the channel's condition, then the three timers. -/
theorem readerTimersRunOut : Obligations.ReaderTimersRunOut := by
  refine ⟨fun s r => ⟨channelEnabled_iff s r, lampOf_of_lost r, fun hpower hrun => ?_, lampOf_of_disabled r, lamp_of_enabled_cases,
    toneOutput_iff s r⟩, fun s r hon => ⟨fun e rest hlist hdue => ?_, fun i hshows hdue => ?_, fun t htone hdue => ?_⟩⟩
  · exact lampOf_of_not_running r ((powered_iff s).2 hpower) hrun
  · exact congrArg Host.Outcome.next (suppressionExpiry_of_due hon hlist hdue)
  · exact congrArg Host.Outcome.next (indicationExpiry_of_due hon hshows hdue)
  · have hend : exec (.toneEnd r) s = _ := congrArg Host.Outcome.next (toneEnd_of_due hon htone hdue)
    obtain ⟨hlast, hgap, htone⟩ := tone_next_cases t s.now
    exact ⟨fun hsounds h => by rw [hend, hlast hsounds h], fun hsounds h => by rw [hend, hgap hsounds h],
      fun h => by rw [hend, htone h]⟩

end Sys2Proof.Machine

/-! PROOFS. A read that has ended: the parts of a badge code, the refusals at the channel, repeats and the waiting queue (R45 to
R50). -/

namespace Sys2Proof.Machine

/-! ### The bits of a badge code -/

theorem bitsNat_snoc (l : List Bool) (b : Bool) : bitsNat (l ++ [b]) = 2 * bitsNat l + (if b then 1 else 0) := by
  rw [bitsNat, List.foldl_append]
  rfl

/-- R45: bit i of the number that bits spell is the bit at place i from the end. -/
theorem testBit_bitsNat (l : List Bool) : ∀ i, (bitsNat l).testBit i = l.reverse.getD i false := by
  induction l using List.reverseRecOn with
  | nil => exact fun i => (Nat.zero_testBit i)
  | append_singleton l b ih =>
    intro i
    rw [bitsNat_snoc, List.reverse_append]
    cases i with
    | zero =>
      rw [Nat.testBit_zero]
      cases b <;> simp [Nat.add_mod]
    | succ i =>
      have hhalf : (2 * bitsNat l + (if b then 1 else 0)) / 2 = bitsNat l := by
        split <;> omega
      rw [Nat.testBit_succ, hhalf, ih i]
      rfl

/-- The eight bits of a byte of the badge code. -/
theorem drop_take_eight {bits : List Bool} (h : bits.length = 40) {k : Nat} (hk : k < 5) :
    (bits.drop (8 * k)).take 8 = (List.range 8).map fun j => bits.getD (8 * k + j) false := by
  refine List.ext_getElem (by simp; omega) fun j hj _ => ?_
  have hin : 8 * k + j < bits.length := by simp at hj; omega
  simp [hin]

theorem codeByte_eq {bits : List Bool} (h : bits.length = 40) {k : Nat} (hk : k < 5) : codeByte bits k = bitsFrom bits (8 * k) := by
  have hbit (b : Bool) (n : Nat) : (if b then n else 0) = n * (if b then 1 else 0) := by cases b <;> simp
  rw [codeByte, drop_take_eight h hk, bitsFrom]
  simp only [bitsNat, List.range_succ, List.range_zero, List.nil_append, List.map_cons, List.map_nil,
    List.cons_append, List.foldl_cons, List.foldl_nil, List.sum_cons, List.sum_nil]
  simp only [hbit _ (2 ^ _)]
  ring

theorem getLsbD_codeByte {bits : List Bool} (h : bits.length = 40) {k j : Nat} (hk : k < 5) (hj : j < 8) :
    (byteOf (codeByte bits k)).getLsbD (7 - j) = bits.getD (8 * k + j) false := by
  have hlow : 7 - j < 8 := by omega
  have hlength : ((bits.drop (8 * k)).take 8).length = 8 := by simp; omega
  rw [byteOf, BitVec.getLsbD_ofNat, decide_eq_true hlow, Bool.true_and, codeByte, testBit_bitsNat, List.getD_eq_getElem?_getD,
    List.getElem?_reverse (by rw [hlength]; exact hlow), hlength, drop_take_eight h hk]
  have hplace : 8 - 1 - (7 - j) = j := by omega
  rw [hplace]
  simp [hj]

theorem codeCheckOk_iff {bits : List Bool} (h : bits.length = 40) : codeCheckOk bits = true ↔
    ∀ j, j < 8 → bits.getD (32 + j) false =
      !(bits.getD j false ^^ bits.getD (8 + j) false ^^ bits.getD (16 + j) false ^^ bits.getD (24 + j) false) := by
  have hplace (j : Nat) (hj : j < 8) : ((byteOf (codeByte bits 4)).getLsbD (7 - j) =
      (~~~(byteOf (codeByte bits 0) ^^^ byteOf (codeByte bits 1) ^^^ byteOf (codeByte bits 2) ^^^
        byteOf (codeByte bits 3))).getLsbD (7 - j)) ↔ bits.getD (32 + j) false =
      !(bits.getD j false ^^ bits.getD (8 + j) false ^^ bits.getD (16 + j) false ^^ bits.getD (24 + j) false) := by
    have hlow : 7 - j < 8 := by omega
    rw [BitVec.getLsbD_not, decide_eq_true hlow, Bool.true_and, BitVec.getLsbD_xor, BitVec.getLsbD_xor, BitVec.getLsbD_xor,
      getLsbD_codeByte h (by decide) hj, getLsbD_codeByte h (by decide) hj, getLsbD_codeByte h (by decide) hj,
      getLsbD_codeByte h (by decide) hj, getLsbD_codeByte h (by decide) hj, Nat.mul_zero, Nat.zero_add]
  rw [codeCheckOk, decide_eq_true_eq]
  refine ⟨fun heq j hj => (hplace j hj).1 (by rw [heq]), fun hall => BitVec.eq_of_getLsbD_eq fun i hi => ?_⟩
  have hback := (hplace (7 - i) (by omega)).2 (hall (7 - i) (by omega))
  rwa [show 7 - (7 - i) = i by omega] at hback

/-- R45: the parts of a badge code. -/
theorem code_parts (bits : List Bool) (h : bits.length = 40) :
    codeSite bits = bitsFrom bits 0 ∧
      codeBadge bits = 65536 * bitsFrom bits 8 + 256 * bitsFrom bits 16 + bitsFrom bits 24 ∧
      (codeCheckOk bits = true ↔
        ∀ j, j < 8 → bits.getD (32 + j) false =
          !(bits.getD j false ^^ bits.getD (8 + j) false ^^ bits.getD (16 + j) false ^^ bits.getD (24 + j) false)) := by
  refine ⟨codeByte_eq h (by decide), ?_, codeCheckOk_iff h⟩
  rw [codeBadge, codeByte_eq h (by decide), codeByte_eq h (by decide), codeByte_eq h (by decide)]
  ring

/-! ### The read that ends -/

theorem wellFormed_iff (x : ReadInProgress) : x.wellFormed = true ↔
    x.spoiled = false ∧ x.count = 40 ∧ codeCheckOk x.bits = true ∧ 1 ≤ codeBadge x.bits ∧ codeBadge x.bits ≤ 16777214 := by
  have hcount : decide (x.count = Config.readBits) = true ↔ x.count = 40 := decide_eq_true_iff
  rw [ReadInProgress.wellFormed, Bool.and_eq_true, Bool.and_eq_true, Bool.and_eq_true, badgeInRange_iff, hcount, Bool.not_eq_true',
    and_assoc, and_assoc]

theorem over_iff (x : ReadInProgress) (now : Nat) :
    x.over now = true ↔ x.zeroStuck = false ∧ x.oneStuck = false ∧ 25 ≤ elapsedSince now x.lastEnd := by
  have hquiet : reached now x.lastEnd Config.railQuiet = true ↔ 25 ≤ elapsedSince now x.lastEnd := decide_eq_true_iff
  rw [ReadInProgress.over, Bool.and_eq_true, hquiet, ReadInProgress.stuck, Bool.not_eq_true', Bool.or_eq_false_iff, and_assoc]

theorem readEnd_of_over {s : State} {r : Reader} {x : ReadInProgress} (hon : channelEnabled s r = true)
    (hread : (s.channel r).read = some x) (hover : x.over s.now = true) :
    readEnd r s = testRead r x (s.setChannel r { s.channel r with read := none }) := by
  unfold readEnd
  rw [hread]
  exact if_pos (Bool.and_eq_true_iff.2 ⟨hon, hover⟩)

theorem readEnd_of_going {s : State} {r : Reader} {x : ReadInProgress} (hread : (s.channel r).read = some x)
    (hover : x.over s.now = false) : readEnd r s = s := by
  unfold readEnd
  rw [hread]
  exact if_neg (by simp [hover])

theorem running_setChannel (s : State) (r : Reader) (c : Channel) : running (s.setChannel r c) = running s := by
  cases r <;> rfl

/-- R46: a refusal of a read that has been taken off its channel is one of the station as it stood. -/
theorem refusedAt_of_taken_read {s t : State} {r : Reader} {badge : Option Nat} {reason : Reason} {c : Channel}
    (h : refusedAt (s.setChannel r c) t r badge reason) : refusedAt s t r badge reason := by
  cases r
  · exact h
  · exact h

theorem listed_of_taken_read {s t : State} {r : Reader} {badge : Nat} {c : Channel}
    (hsame : c.suppression = (s.channel r).suppression) (h : listed (s.setChannel r c) t r badge) : listed s t r badge := by
  rw [listed, channel_setChannel, hsame] at h
  cases r
  · exact h
  · exact h

/-- R46: all that a refusal at the channel comes to. -/
theorem refuseAtChannel_of_read {s : State} {r : Reader} (badge : Option Nat) (reason : Reason) (hrun : running s = true) :
    ∃ t, refuseAtChannel r badge reason (s.setChannel r { s.channel r with read := none }) = t ∧ refusedAt s t r badge reason ∧
      (t.channel r).read = none ∧ (t.channel r).suppression = (s.channel r).suppression ∧
      t = { s with journal := t.journal, panel := t.panel, entryChannel := t.entryChannel, exitChannel := t.exitChannel,
                   counters := t.counters } := by
  obtain ⟨hrefused, hchannel⟩ := refuseAtChannel_refusedAt r badge reason (s.setChannel r { s.channel r with read := none })
    ((running_setChannel _ _ _).trans hrun)
  obtain ⟨j, k, p, e, x, hframe⟩ := refuseAtChannel_changes r badge reason (s.setChannel r { s.channel r with read := none })
  refine ⟨_, rfl, refusedAt_of_taken_read hrefused, ?_, ?_, ?_⟩
  · rw [hchannel, channel_setChannel]
  · rw [hchannel, channel_setChannel]
  · rw [hframe]
    cases r
    · rfl
    · rfl

/-- Settles O27: the parts of the code, the read that goes on, and the two refusals at the channel. -/
theorem channelRefusals : Obligations.ChannelRefusals := by
  refine ⟨code_parts, fun s r x hon hread => ⟨fun hgoing => ?_, fun hzero hone hquiet badge reason hcase => ?_⟩⟩
  · refine congrArg Host.Outcome.next (readEnd_of_going hread ?_)
    rw [← Bool.not_eq_true, over_iff]
    rintro ⟨hzero, hone, hquiet⟩
    rcases hgoing with h | h | h
    · exact Bool.false_ne_true (hzero.symm.trans h)
    · exact Bool.false_ne_true (hone.symm.trans h)
    · omega
  · have hend : exec (.readEnd r) s = _ := congrArg Host.Outcome.next (readEnd_of_over hon hread ((over_iff x s.now).2 ⟨hzero, hone, hquiet⟩))
    rw [hend]
    obtain ⟨t, ht, hrefused⟩ := refuseAtChannel_of_read (r := r) badge reason (running_of_channelEnabled s r hon)
    refine ⟨t, congrArg Host.Outcome.next (Eq.trans ?_ ht), hrefused⟩
    rcases hcase with ⟨hbad, rfl, rfl⟩ | ⟨hgood, hsite, rfl, rfl⟩
    · have hform : x.wellFormed = false := by
        rw [← Bool.not_eq_true, wellFormed_iff]
        rintro ⟨hspoiled, hcount, hcheck, hlow, hhigh⟩
        rcases hbad with h | h | h | h | h
        · exact Bool.false_ne_true (hspoiled.symm.trans h)
        · exact h hcount
        · exact Bool.false_ne_true (h.symm.trans hcheck)
        · omega
        · omega
      rw [testRead, hform]
      rfl
    · have hform : x.wellFormed = true := (wellFormed_iff x).2 hgood
      rw [testRead, hform, setChannel_settings, if_neg (by decide), if_pos hsite]

/-! ### A read of the right site -/

theorem isRepeat_iff (s : State) (r : Reader) (badge : Nat) : isRepeat s r badge = true ↔
    (∃ e ∈ (s.channel r).suppression, e.badge = badge) ∨ (∃ w ∈ s.waiting, w.reader = r ∧ w.badge = badge) ∨
      (∃ p, s.pendingPunch = some p ∧ p.reader = r ∧ p.badge = badge) := by
  rw [isRepeat, Bool.or_eq_true, Bool.or_eq_true, or_assoc]
  refine or_congr (by simp) (or_congr (by simp) ?_)
  cases s.pendingPunch <;> simp

theorem isRepeat_of_taken_read (s : State) (r : Reader) (badge : Nat) :
    isRepeat (s.setChannel r { s.channel r with read := none }) r badge = isRepeat s r badge := by
  cases r
  · rfl
  · rfl

theorem waitingCapacity_eq (s : State) : waitingCapacity s = if s.bell.rush.isSome then 4 else 1 := rfl

theorem joinWaiting_of_full {r : Reader} {badge : Nat} {s : State}
    (h : (if s.bell.rush.isSome then 4 else 1) ≤ s.waiting.length) : joinWaiting r badge s = refuseRead r badge .gateBusy s := by
  rw [joinWaiting, waitingCapacity_eq, if_neg (Nat.not_lt.2 h)]

theorem joinWaiting_of_room {r : Reader} {badge : Nat} {s : State}
    (h : s.waiting.length < (if s.bell.rush.isSome then 4 else 1)) : joinWaiting r badge s =
      if s.waiting.isEmpty then
        testHead { s with waiting := s.waiting ++ [{ reader := r, badge := badge, readAt := s.now, held := false }] }
      else { s with waiting := s.waiting ++ [{ reader := r, badge := badge, readAt := s.now, held := false }] } := by
  rw [joinWaiting, waitingCapacity_eq, if_pos h]

theorem refuseRead_of_taken_read {s : State} {r : Reader} (badge : Nat) (reason : Reason) (hrun : running s = true) :
    ∃ t, refuseRead r badge reason (s.setChannel r { s.channel r with read := none }) = t ∧
      refusedAt s t r (some badge) reason ∧ listed s t r badge ∧
      t = { s with journal := t.journal, panel := t.panel, entryChannel := t.entryChannel, exitChannel := t.exitChannel,
                   counters := t.counters } := by
  obtain ⟨hrefused, hlisted, -⟩ := refuseRead_refusedAt r badge reason (s.setChannel r { s.channel r with read := none })
    ((running_setChannel _ _ _).trans hrun)
  obtain ⟨j, k, p, e, x, hframe⟩ := refuseRead_changes r badge reason (s.setChannel r { s.channel r with read := none })
  refine ⟨_, rfl, refusedAt_of_taken_read hrefused, listed_of_taken_read (by rfl) hlisted, ?_⟩
  rw [hframe]
  cases r
  · rfl
  · rfl

/-- Settles O28: the repeat, the place in the queue and GATE BUSY. -/
theorem readsJoinTheQueue : Obligations.ReadsJoinTheQueue := by
  intro s r x badge hon hread hzero hone hquiet hspoiled hcount hcheck hlow hhigh hsite hbadge u hu
  have hform : x.wellFormed = true := (wellFormed_iff x).2 ⟨hspoiled, hcount, hcheck, hbadge ▸ hlow, hbadge ▸ hhigh⟩
  have hend : exec (.readEnd r) s = .next (if isRepeat s r badge then bump .repeatIgnored u else joinWaiting r badge u) := by
    refine congrArg Host.Outcome.next ((readEnd_of_over hon hread ((over_iff x s.now).2 ⟨hzero, hone, hquiet⟩)).trans ?_)
    rw [testRead, hform, if_neg (by decide), setChannel_settings, if_neg (not_not.2 hsite), ← hbadge, isRepeat_of_taken_read, hu]
  have hwaiting : u.waiting = s.waiting := by rw [hu, setChannel_waiting]
  have hbell : u.bell = s.bell := by rw [hu, setChannel_bell]
  have hnow : u.now = s.now := by rw [hu, State.now, setChannel_timebase, State.now]
  refine ⟨fun hrepeat => by rw [hend, if_pos ((isRepeat_iff s r badge).2 hrepeat)], fun hlist hqueue hpending => ?_⟩
  have hnew : ¬ isRepeat s r badge = true := by
    rw [isRepeat_iff]
    rintro (⟨e, he, h⟩ | ⟨w, hw, h, h'⟩ | ⟨p, hp, h, h'⟩)
    · exact hlist e he h
    · exact hqueue w hw h h'
    · exact hpending p hp h h'
  rw [if_neg hnew] at hend
  refine ⟨fun hroom => ⟨_, hend, fun hwaits => ?_, fun hempty => ?_⟩, fun hfull => ?_⟩
  · rw [joinWaiting_of_room (by rw [hwaiting, hbell]; exact hroom), hwaiting, hnow, if_neg (by simpa using hwaits)]
  · rw [joinWaiting_of_room (by rw [hwaiting, hbell]; exact hroom), hwaiting, hnow, hempty]
    rfl
  · obtain ⟨t, ht, hrefused⟩ := refuseRead_of_taken_read (r := r) badge .gateBusy (running_of_channelEnabled s r hon)
    refine ⟨t, hend.trans (congrArg Host.Outcome.next ?_), hrefused⟩
    rw [joinWaiting_of_full (by rw [hwaiting, hbell]; exact hfull), hu, ht]

/-! ### The entry that has waited its time -/

theorem timedOut_iff (w : WaitEntry) (now : Nat) : w.timedOut now = true ↔ 10000 ≤ elapsedSince now w.readAt := decide_eq_true_iff

theorem takeTimedOut_eq {now : Nat} {w : WaitEntry} (hw : 10000 ≤ elapsedSince now w.readAt) (b : List WaitEntry) :
    ∀ a : List WaitEntry, (∀ v ∈ a, elapsedSince now v.readAt < 10000) → takeTimedOut now (a ++ w :: b) = some (w, a ++ b)
  | [], _ => if_pos ((timedOut_iff w now).2 hw)
  | v :: a, h => by
    have hv : ¬ v.timedOut now = true := by
      rw [timedOut_iff]
      exact Nat.not_le.2 (h v List.mem_cons_self)
    rw [List.cons_append, takeTimedOut, if_neg hv, takeTimedOut_eq hw b a fun x hx => h x (List.mem_cons_of_mem v hx)]
    rfl

/-- Settles O30: the entry is taken from its place, and the next head is tested where it stood at the head. -/
theorem waitingReadsTimeOut : Obligations.WaitingReadsTimeOut := by
  intro s a b w hrun hwaiting hothers hdue
  obtain ⟨hrefused, hlisted, -⟩ := refuseRead_refusedAt w.reader w.badge .waitTimeout { s with waiting := a ++ b } hrun
  obtain ⟨j, k, p, e, x, hframe⟩ := refuseRead_changes w.reader w.badge .waitTimeout { s with waiting := a ++ b }
  have hend : waitTimeout s = if s.waiting.head? = some w then
      testHead (refuseRead w.reader w.badge .waitTimeout { s with waiting := a ++ b })
      else refuseRead w.reader w.badge .waitTimeout { s with waiting := a ++ b } := by
    unfold waitTimeout
    rw [if_pos hrun, hwaiting, takeTimedOut_eq hdue b a hothers]
  refine ⟨_, hrefused, hlisted, by rw [hframe], by rw [hframe], fun hbehind => ?_, fun hhead => ?_⟩
  · obtain ⟨v, a, rfl⟩ := List.exists_cons_of_ne_nil hbehind
    have hv : v ≠ w := by
      rintro rfl
      exact absurd (hothers v List.mem_cons_self) (Nat.not_lt.2 hdue)
    refine congrArg Host.Outcome.next (hend.trans (if_neg fun h => hv ?_))
    rw [hwaiting] at h
    exact Option.some.inj h
  · refine congrArg Host.Outcome.next (hend.trans (if_pos ?_))
    rw [hwaiting, hhead]
    rfl

end Sys2Proof.Machine

/-! PROOFS. The panel: texts, the clock row, and what follows an overlay and a transfer (R165, R166). -/

namespace Sys2Proof.Machine

/-! ### Texts -/

theorem length_rowText (text : List Byte) : (rowText text).length = 16 := by
  simp [rowText, padRow, spaces]

theorem printable_eq (b : Byte) : printable b = if 0x20#8 ≤ b ∧ b ≤ 0x7E#8 then b else 0x20#8 := rfl

theorem rowText_getD (text : List Byte) {i : Nat} (h : i < 16) :
    (rowText text).getD i 0 = printable (text.getD i 0x20#8) := by
  have hpad : (padRow text)[i]? = some (text.getD i 0x20#8) := by
    rw [padRow, List.getElem?_take_of_lt h]
    by_cases hin : i < text.length
    · rw [List.getElem?_append_left hin, List.getD_eq_getElem _ _ hin, List.getElem?_eq_getElem hin]
    · rw [List.getElem?_append_right (Nat.le_of_not_lt hin), List.getD_eq_default _ _ (Nat.le_of_not_lt hin), spaces,
        List.getElem?_replicate_of_lt (by omega)]
  rw [rowText, List.getD_eq_getElem?_getD, List.getElem?_map, hpad]
  rfl

theorem twoDigits_of_lt {n : Nat} (h : n < 100) : twoDigits n = [byteOf (48 + n / 10), byteOf (48 + n % 10)] := by
  rw [twoDigits, Nat.mod_eq_of_lt (by omega : n / 10 < 10)]

theorem dayText_eq {d : Nat} (h : d < 7) : textBytes (dayName d) ++ [0x20#8] =
    textBytes (["MON ", "TUE ", "WED ", "THU ", "FRI ", "SAT ", "SUN "].getD d "") := by
  revert d
  decide

theorem clockRow_of_set {minute : Nat} (h : minute < 10080) : clockRow true minute = rowText
    (textBytes (["MON ", "TUE ", "WED ", "THU ", "FRI ", "SAT ", "SUN "].getD (minute / 1440) "") ++
      [byteOf (48 + minute % 1440 / 60 / 10), byteOf (48 + minute % 1440 / 60 % 10), 58#8, byteOf (48 + minute % 60 / 10),
        byteOf (48 + minute % 60 % 10)]) := by
  have hpast : minute % 1440 % 60 = minute % 60 := Nat.mod_mod_of_dvd minute (by decide)
  have htime : timeText (minuteOfDay minute) =
      [byteOf (48 + minute % 1440 / 60 / 10), byteOf (48 + minute % 1440 / 60 % 10), 58#8, byteOf (48 + minute % 60 / 10),
        byteOf (48 + minute % 60 % 10)] := by
    rw [timeText, show minuteOfDay minute = minute % 1440 from rfl, hpast, twoDigits_of_lt (by omega), twoDigits_of_lt (by omega)]
    rfl
  rw [clockRow, if_pos rfl, htime, show dayOfWeek minute = minute / 1440 from rfl, dayText_eq (by omega)]

/-! ### The link -/

theorem kick_of_busy {p : Panel} (h : p.transfer.isSome = true) : p.kick = p := by
  obtain ⟨x, hx⟩ := Option.isSome_iff_exists.1 h
  unfold Panel.kick
  rw [hx]

theorem kick_of_mark1 {p : Panel} (hfree : p.transfer = none) (h : p.mark1 = true) :
    p.kick = { p with transfer := some { row := .one, codes := p.row1 }, mark1 := false } := by
  unfold Panel.kick
  rw [hfree]
  exact if_pos h

theorem kick_of_mark2 {p : Panel} (hfree : p.transfer = none) (h : p.mark1 = false) (h2 : p.mark2 = true) :
    p.kick = { p with transfer := some { row := .two, codes := p.row2 }, mark2 := false } := by
  unfold Panel.kick
  rw [hfree]
  exact (if_neg (Bool.not_eq_true _ ▸ h)).trans (if_pos h2)

theorem kick_of_unmarked {p : Panel} (hfree : p.transfer = none) (h : p.mark1 = false) (h2 : p.mark2 = false) : p.kick = p := by
  unfold Panel.kick
  rw [hfree]
  exact (if_neg (Bool.not_eq_true _ ▸ h)).trans (if_neg (Bool.not_eq_true _ ▸ h2))

theorem setRow1_of_same {p : Panel} {codes : List Byte} (h : p.row1 = codes) : p.setRow1 codes = p := if_pos h

theorem setRow1_of_free {p : Panel} {codes : List Byte} (h : p.row1 ≠ codes) (hfree : p.transfer = none) :
    p.setRow1 codes = { p with row1 := codes, transfer := some { row := .one, codes := codes }, mark1 := false } :=
  (if_neg h).trans (kick_of_mark1 (p := { p with row1 := codes, mark1 := true }) hfree rfl)

theorem setRow1_of_busy {p : Panel} {codes : List Byte} (h : p.row1 ≠ codes) (hbusy : p.transfer.isSome = true) :
    p.setRow1 codes = { p with row1 := codes, mark1 := true } :=
  (if_neg h).trans (kick_of_busy (p := { p with row1 := codes, mark1 := true }) hbusy)

theorem panelOverlayExpiry_of_due {s : State} {o : Overlay} (hruns : panelRuns s = true) (hoverlay : s.panel.overlay = some o)
    (hdue : o.timer.duration ≤ elapsedSince s.now o.timer.start) :
    panelOverlayExpiry s = { s with panel := Panel.setRow1 { s.panel with overlay := none } o.saved } := by
  unfold panelOverlayExpiry
  rw [hoverlay]
  exact if_pos (Bool.and_eq_true_iff.2 ⟨hruns, decide_eq_true hdue⟩)

theorem panelTransferComplete_of_busy {s : State} (hruns : panelRuns s = true) (hbusy : s.panel.transfer.isSome = true) :
    panelTransferComplete s = { s with panel := Panel.kick { s.panel with transfer := none } } :=
  if_pos (Bool.and_eq_true_iff.2 ⟨hruns, hbusy⟩)

/-- Settles O55: the texts, the overlay's end and the next transfer. -/
theorem panelReturnsAndSends : Obligations.PanelReturnsAndSends := by
  refine ⟨fun text i => ⟨length_rowText text, fun hi => (rowText_getD text hi).trans (printable_eq _)⟩,
    fun minute => ⟨rfl, fun hminute hour past hhour hpast => ?_⟩, fun reason => by cases reason <;> rfl, fun s hruns =>
      ⟨fun o hoverlay hdue => ?_, fun hbusy => ?_⟩⟩
  · rw [hhour, hpast]
    exact clockRow_of_set hminute
  · refine ⟨_, congrArg Host.Outcome.next (panelOverlayExpiry_of_due hruns hoverlay hdue), ?_⟩
    obtain ⟨hrow1, hrow2, hstands, -, hmessages⟩ := Panel.setRow1_keeps { s.panel with overlay := none } o.saved
    refine ⟨hrow1, hstands, hrow2, hmessages, fun hother hfree => ?_, fun hother hbusy => ?_, fun hsame => ?_, rfl⟩
    · rw [setRow1_of_free (by exact hother) (by exact hfree)]
    · rw [setRow1_of_busy (by exact hother) (by exact hbusy)]
    · rw [setRow1_of_same (by exact hsame)]
  · have hend : exec .panelTransferComplete s = _ := congrArg Host.Outcome.next (panelTransferComplete_of_busy hruns hbusy)
    rw [hend]
    refine ⟨fun h => ?_, fun h h2 => ?_, fun h h2 => ?_⟩
    · rw [kick_of_mark1 rfl (by exact h)]
    · rw [kick_of_mark2 rfl (by exact h) (by exact h2)]
    · rw [kick_of_unmarked rfl (by exact h) (by exact h2)]

end Sys2Proof.Machine
